-- ==== Sys2Proof/Word.lean ====
section
/-! DEFINITION. The words of the MJ-620: bytes, lines, addresses, block numbers and sequence numbers
(spec/00_scope.md, Conventions). -/

namespace Sys2Proof

/-- One byte. -/
abbrev Byte := BitVec 8

/-- A 32-bit word: a memory word, or a register of the service port. -/
abbrev Word := BitVec 32

/-- A line of 16 bytes; byte `k` (at address + k) is bits `8k+7 .. 8k`. -/
abbrev Line := BitVec 128

/-- A byte address of the 64 MiB space. -/
abbrev Addr := BitVec 26

/-- A block number, 0 to 65,535. -/
abbrev Block := BitVec 16

/-- A byte mask of a line: bit `k` stands for byte `k`. -/
abbrev Mask := BitVec 16

/-- A sequence number, 32-bit unsigned, wrapping (R1). -/
abbrev Seq := BitVec 32

/-- A session number; 0 means "no session". -/
abbrev SessionNo := BitVec 4

/-- A mark number, 16-bit unsigned, wrapping. -/
abbrev MarkNo := BitVec 16

/-- A timer: `none` when stopped, or running with the interval in µs it was started with (R2). -/
abbrev Timer := Option Nat

end Sys2Proof
end

