-- ==== Sys2Proof/Syntax.lean ====
section
/-! DEFINITION. The commands of the part: one constructor of `Instr` for each row of spec/opcode_table.json. -/

namespace Sys2Proof

/-- The two roles, sampled from the ROLE strap (R193). -/
inductive Role where
  | origin
  | replica
  deriving DecidableEq, Repr

/-- A transaction of the bus master (R41): word and line reads and writes, with the address as driven. -/
inductive MasterRequest where
  | wordRead (address : Addr)
  | lineRead (address : Addr)
  | wordWrite (address : Addr) (mask : BitVec 4) (data : Word)
  | lineWrite (address : Addr) (mask : Mask) (data : Line)
  deriving DecidableEq, Repr

/-- What memory reports of a beat, and its answer to a whole transaction (R67). -/
inductive MemAnswer where
  | ok
  | error
  deriving DecidableEq, Repr

/-- What makes a frame a framing error while it is being received (R131, conditions 1, 3 and 4). The
conditions that rest on received bytes carry them, and the receiver judges them. -/
inductive FramingCheck where
  | badStopBit
  | kindNotAccepted (byte0 : Byte)
  | lengthOutOfRange (byte0 byte1 : Byte) (length : BitVec 16)
  deriving DecidableEq, Repr

/-- CONTROL.arb (R71). -/
inductive ArbPolicy where
  | alternate
  | systemFirst
  deriving DecidableEq, Repr

/-- CONTROL.pace (R52). -/
inductive PacePolicy where
  | stall
  | track
  deriving DecidableEq, Repr

/-- The two registers of a REGION pair (R45). -/
inductive RegionHalf where
  | base
  | limit
  deriving DecidableEq, Repr

/-- The levels of the pins MARK and DRAIN (R111). -/
structure RequestPins where
  mark : Bool
  drain : Bool
  deriving DecidableEq, Repr

/-- The commands, one constructor for each row of the table. -/
inductive Instr where
  /-- MASTER_TRANSACTION (R41): the bus master issues a transaction. -/
  | masterTransaction (request : MasterRequest)
  /-- MEMORY_READY (R69): memory signals ready. -/
  | memoryReady
  /-- SYSTEM_MEMORY_ANSWER (R72): memory answers a system-port transaction, with what it reports of each beat (R67). -/
  | systemMemoryAnswer (beats : List MemAnswer) (data : Line)
  /-- COMPLETION_TAKEN (R42): the master takes the completion. -/
  | completionTaken
  /-- STALL_TIMER_EXPIRY (R55). -/
  | stallTimerExpiry
  /-- HELD_WRITE_ACK_REPORT (R54): capture takes an acknowledge-through report. -/
  | heldWriteAckReport
  /-- DIRTY_MARK_REPORT (R101): the mirror controller takes a mark report. -/
  | dirtyMarkReport
  /-- MIRROR_ACK_REPORT (R113): the mirror controller takes an acknowledge-through report. -/
  | mirrorAckReport
  /-- COPY_START (R86): the copy engine takes a pending start. -/
  | copyStart
  /-- COPY_PACING_TIMER_EXPIRY (R84). -/
  | copyPacingTimerExpiry
  /-- LINE_READ_ANSWER (R89): memory answers a LINE READ of the copy engine, beat by beat (R67). -/
  | lineReadAnswer (beats : List MemAnswer) (data : Line)
  /-- LOAD (R18): the transmitter offers a load. -/
  | load
  /-- FRAME_BOUNDARY (R126). -/
  | frameBoundary
  /-- FRAME_END (R126). -/
  | frameEnd
  /-- BREAK_START (R127). -/
  | breakStart
  /-- BREAK_END (R127). -/
  | breakEnd
  /-- RECEIVER_ALIGN (R129). -/
  | receiverAlign
  /-- RX_FRAMING (R131). -/
  | rxFraming (check : FramingCheck)
  /-- RX_TRUNCATION (R131). -/
  | rxTruncation
  /-- DATA_FRAME_RECEIVED (R133): the bytes of a complete PROBE, WRITE, BLOCK or MARK frame. -/
  | dataFrameReceived (bytes : List Byte)
  /-- HELLO_RECEIVED (R146): the bytes of a complete HELLO frame. -/
  | helloReceived (bytes : List Byte)
  /-- HELLO_ACK_RECEIVED (R144). -/
  | helloAckReceived (bytes : List Byte)
  /-- ACK_RECEIVED (R152). -/
  | ackReceived (bytes : List Byte)
  /-- NAK_RECEIVED (R153). -/
  | nakReceived (bytes : List Byte)
  /-- HELLO_KEEPALIVE_TIMER_EXPIRY (R142). -/
  | helloKeepaliveTimerExpiry
  /-- SILENCE_TIMER_EXPIRY (R149). -/
  | silenceTimerExpiry
  /-- ACK_TIMER_EXPIRY (R154). -/
  | ackTimerExpiry
  /-- BREAK_DETECTED (R135): RXD has been at space for 64 bit times. -/
  | breakDetected
  /-- APPLY_TAKE_FRAME (R168). -/
  | applyTakeFrame
  /-- APPLY_WRITE_ANSWER (R170): memory answers a LINE WRITE of the apply engine, beat by beat (R67). -/
  | applyWriteAnswer (beats : List MemAnswer)
  /-- START (R99, R163). -/
  | start
  /-- STOP (R104, R164). -/
  | stop
  /-- RESEED (R105). -/
  | reseed
  /-- PAUSE (R106). -/
  | pause
  /-- RESYNC (R106). -/
  | resync
  /-- MARK (R111). -/
  | mark
  /-- MARK_PIN_EDGE (R111): the MARK pin moves to `level`; it is an edge when the pin was deasserted (R3). -/
  | markPinEdge (level : Bool)
  /-- DRAIN (R114). -/
  | drain
  /-- DRAIN_PIN_EDGE (R114): the DRAIN pin moves to `level`. -/
  | drainPinEdge (level : Bool)
  /-- LINK_RESET (R157). -/
  | linkReset
  /-- CLEAR_COUNTERS (R189). -/
  | clearCounters
  /-- SOFT_RESET (R188): the command is answered; the reset is scheduled. -/
  | softReset
  /-- SOFT_RESET_TAKEN (R188), with the levels of the MARK and DRAIN pins sampled at its end (R111), and whether SPSEL
  is still asserted: at the end of the RESPONSE byte it is, at the deassertion that came first it is not. -/
  | softResetTaken (pins : RequestPins) (selected : Bool)
  /-- UNKNOWN_COMMAND (R186). -/
  | unknownCommand (code : Byte)
  /-- CONTROL_MERGE (R185). -/
  | controlMerge (value : Bool)
  /-- CONTROL_ARB (R71). -/
  | controlArb (value : ArbPolicy)
  /-- CONTROL_PACE (R52). -/
  | controlPace (value : PacePolicy)
  /-- CONTROL_LINK_ENABLE (R137). -/
  | controlLinkEnable (value : Bool)
  /-- CAUSE (R191). -/
  | cause (value : Word)
  /-- ENABLE (R192). -/
  | enable (value : Word)
  /-- LINKCFG (R120). -/
  | linkcfg (value : Word)
  /-- KEEPCFG (R140). -/
  | keepcfg (value : Word)
  /-- ACKCFG (R140). -/
  | ackcfg (value : Word)
  /-- PACECFG (R52). -/
  | pacecfg (value : Word)
  /-- COPYCFG (R84). -/
  | copycfg (value : Word)
  /-- REGION (R47): a write of one register of pair `n`. -/
  | region (n : Fin 8) (half : RegionHalf) (value : Word)
  /-- REGISTER_WRITE (R183): a WRITE of any register index, with the DATA bytes that SPDI carries, in the order sent,
  while SPSEL stays asserted; with fewer than four of them it loses SPSEL. -/
  | registerWrite (index : Byte) (data : List Byte)
  /-- INVALID_OPCODE (R182): a transaction judged at the end of its INDEX byte. -/
  | invalidOpcode (opcode index : Byte)
  /-- SRST_ASSERT (R62). -/
  | srstAssert
  /-- SRST_DEASSERT (R62). -/
  | srstDeassert
  /-- PORST_ASSERT (R193). -/
  | porstAssert
  /-- PORST_DEASSERT (R193), with the level of ROLE (high gives ORIGIN), those of the MARK and DRAIN pins, and whether
  SPSEL is asserted. -/
  | porstDeassert (roleHigh : Bool) (pins : RequestPins) (selected : Bool)
  deriving DecidableEq, Repr

/-- Whether a command is a transaction of the service port (R181): a command, a register write, or a transaction
without a valid opcode. -/
def Instr.isServiceCommand : Instr → Bool
  | .start | .stop | .reseed | .pause | .resync | .mark | .drain | .linkReset | .clearCounters | .softReset
  | .unknownCommand _ | .controlMerge _ | .controlArb _ | .controlPace _ | .controlLinkEnable _ | .cause _ | .enable _
  | .linkcfg _ | .keepcfg _ | .ackcfg _ | .pacecfg _ | .copycfg _ | .region .. | .registerWrite ..
  | .invalidOpcode .. => true
  | _ => false

end Sys2Proof
end

