-- ==== Sys2Proof/Config.lean ====
section
/-! DEFINITION. What the part fixes, and what the spec leaves open. -/

namespace Sys2Proof.Config

/-- The most entries the journal holds (R4, R11). -/
def journalCapacity : Nat := 512

/-- The receive slots of a part (R129). -/
def slotCount : Nat := 4

/-- The silicon revision in ID: "a value fixed in the part" (spec/10, register summary). Log 4. -/
opaque siliconRevision : BitVec 8

/-- The order, inside one acknowledge report taken by the mirror controller, of the pending mark's append
and the check for SYNCED: `true` when the check is taken first. R107 leaves it open. Log 8. -/
opaque checkBeforeAppend : Nat → Bool

/-- Whether a HELLO of session 0 taken in DISABLED counts PROTOCOL: two sentences of R146 differ. Log 9. -/
opaque countsSessionZeroInDisabled : Nat → Bool

end Sys2Proof.Config
end

