-- ==== Sys2Proof/Machine/Frames.lean ====
section
/-! DEFINITION. Link frames: their bytes, their CRC, and the receiver's checks on received bytes
(spec/07_link_line_and_frames.md, R122, R123, R130 to R132). -/

namespace Sys2Proof.Machine

/-- The kinds of frame with the contents each carries (R19, R122). A poisoned BLOCK carries no data. -/
inductive FrameBody where
  | hello
  | write (line : Addr) (mask : Mask) (data : Line)
  | block (number : Block) (lines : Vector Line 64)
  | poisoned (number : Block)
  | mark (number : MarkNo) (consistent drain : Bool)
  | probe
  | helloAck (fresh : Bool)
  | ack (fault : Bool)
  | nak (fault : Bool)
  deriving DecidableEq, Repr

/-- A frame: header session and seq, and the body that fixes kind, flags and payload. -/
structure Frame where
  session : SessionNo
  seq : Seq
  body : FrameBody
  deriving DecidableEq, Repr

/-- Kind code, byte 0 bits 7 to 4 (R122). -/
def FrameBody.code : FrameBody → BitVec 4
  | .hello => 1
  | .write .. => 2
  | .block .. => 3
  | .poisoned .. => 3
  | .mark .. => 4
  | .probe => 5
  | .helloAck .. => 8
  | .ack .. => 9
  | .nak .. => 10

/-- The flags byte, byte 1 (R122): flag 0 in bit 0, flag 1 in bit 1, the rest sent as 0. -/
def FrameBody.flags : FrameBody → Byte
  | .poisoned _ => 1
  | .mark _ c d => (0#6 ++ BitVec.ofBool d) ++ BitVec.ofBool c
  | .helloAck f => 0#7 ++ BitVec.ofBool f
  | .ack f => 0#7 ++ BitVec.ofBool f
  | .nak f => 0#7 ++ BitVec.ofBool f
  | _ => 0

/-- The data frames, loaded from the journal (00_scope.md, Terms). -/
def FrameBody.isData : FrameBody → Bool
  | .write .. | .block .. | .poisoned .. | .mark .. => true
  | _ => false

/-- The low `n` bytes of a number, least significant first (spec/07, 7.2). -/
def leBytes : Nat → Nat → List Byte
  | 0, _ => []
  | n + 1, x => BitVec.ofNat 8 x :: leBytes n (x / 256)

/-- The number that bytes spell, least significant first. -/
def ofLeBytes : List Byte → Nat
  | [] => 0
  | b :: bs => b.toNat + 256 * ofLeBytes bs

/-- The payload of each kind (spec/07, 7.2). -/
def FrameBody.payload : FrameBody → List Byte
  | .write line mask data => leBytes 4 line.toNat ++ leBytes 2 mask.toNat ++ leBytes 16 data.toNat
  | .block number lines => leBytes 4 number.toNat ++ lines.toList.flatMap (fun l => leBytes 16 l.toNat)
  | .poisoned number => leBytes 4 number.toNat
  | .mark number _ _ => leBytes 2 number.toNat
  | _ => []

/-- The generator polynomial with its highest-order coefficient in bit 0, the order in which bits leave on
the line (R123). -/
def crcPolynomial : Word := (0x04C11DB7#32).reverse

/-- One bit of the CRC register, which is held with its highest-order coefficient in bit 0 (R123). -/
def crcBit (reg : Word) (bit : Bool) : Word :=
  if reg.getLsbD 0 != bit then (reg >>> 1) ^^^ crcPolynomial else reg >>> 1

/-- One byte of the CRC, bits least significant first (R123). -/
def crcByte (reg : Word) (b : Byte) : Word :=
  let r0 := crcBit reg (b.getLsbD 0)
  let r1 := crcBit r0 (b.getLsbD 1)
  let r2 := crcBit r1 (b.getLsbD 2)
  let r3 := crcBit r2 (b.getLsbD 3)
  let r4 := crcBit r3 (b.getLsbD 4)
  let r5 := crcBit r4 (b.getLsbD 5)
  let r6 := crcBit r5 (b.getLsbD 6)
  crcBit r6 (b.getLsbD 7)

/-- The CRC of a run of bytes: the register starts at all ones and is inverted at the end (R123). -/
def crc32 (bytes : List Byte) : Word := ~~~ (bytes.foldl crcByte 0xFFFFFFFF#32)

/-- Header and payload of a frame, the bytes the CRC covers (R122, R123). -/
def Frame.covered (f : Frame) : List Byte :=
  (f.body.code ++ f.session : Byte) :: f.body.flags ::
    (leBytes 4 f.seq.toNat ++ leBytes 2 f.body.payload.length ++ f.body.payload)

/-- The bytes of a frame in the order they are sent (R121 to R123). -/
def Frame.bytes (f : Frame) : List Byte := f.covered ++ leBytes 4 (crc32 f.covered).toNat

/-! ### Characters -/

/-- A level of a link line (R119): `true` is mark, `false` is space. -/
abbrev Level := Bool

/-- A character, one level for each of its ten bit times (R119): the start bit at space, eight data bits from the
least significant, the stop bit at mark. -/
def characterLevels (b : Byte) : List Level :=
  [false, b.getLsbD 0, b.getLsbD 1, b.getLsbD 2, b.getLsbD 3, b.getLsbD 4, b.getLsbD 5, b.getLsbD 6, b.getLsbD 7, true]

/-- The levels of a run of characters back to back (R121). -/
def lineLevels (bytes : List Byte) : List Level := bytes.flatMap characterLevels

/-- The byte of eight data bits, least significant first (R119). -/
def byteOfLevels (bits : List Level) : Byte := BitVec.ofNat 8 (bits.foldr (fun b n => b.toNat + 2 * n) 0)

/-- What the receiver makes of the ten levels it samples from a start bit on (R119): the byte, or none when the
stop bit is at space, which is a framing error (R131, condition 1). -/
def sampledCharacter (levels : List Level) : Option Byte :=
  if levels.getD 9 false then some (byteOfLevels ((levels.drop 1).take 8)) else none

/-- The number spelt by `n` bytes from byte `i` on. -/
def fieldAt (bytes : List Byte) (i n : Nat) : Nat := ofLeBytes ((bytes.drop i).take n)

/-- Kind code of received bytes. -/
def headerCode (byte0 : Byte) : BitVec 4 := byte0.extractLsb' 4 4

/-- Session field of received bytes. -/
def headerSession (byte0 : Byte) : SessionNo := byte0.extractLsb' 0 4

/-- The kinds a role receives (R131, condition 3): the origin 8, 9 and 10, the replica 1 to 5. -/
def kindAccepted : Role → BitVec 4 → Bool
  | .origin, code => code == 8 || code == 9 || code == 10
  | .replica, code => code == 1 || code == 2 || code == 3 || code == 4 || code == 5

/-- The payload length a kind requires; a BLOCK is judged against its poisoned flag (R122, R131). -/
def requiredLength (code : BitVec 4) (flag0 : Bool) : Nat :=
  if code = 2 then 22
  else if code = 3 then (if flag0 then 4 else 1028)
  else if code = 4 then 2
  else 0

/-- What the receiver finds of a whole run of bytes (R131, R132). -/
inductive RxVerdict where
  | framing
  | crcMismatch
  | fieldRange
  | valid (f : Frame)
  deriving DecidableEq, Repr

/-- The 64 lines of a BLOCK payload: byte `j` of the block at byte 12 + j (spec/07, 7.2). -/
def blockLines (bytes : List Byte) : Vector Line 64 :=
  Vector.ofFn fun i => BitVec.ofNat 128 (fieldAt bytes (12 + 16 * i.val) 16)

/-- The body that checked bytes carry, or none where a field is out of range (R131, condition 5). Flag bits
the layout gives no meaning are ignored (spec/07, 7.2). -/
def decodeBody (bytes : List Byte) (code : BitVec 4) (flags : Byte) : Option FrameBody :=
  if code = 1 then some .hello
  else if code = 2 then
    let a := fieldAt bytes 8 4
    if a % 16 = 0 ∧ a ≤ 0x3FFFFF0 then
      some (.write (BitVec.ofNat 26 a) (BitVec.ofNat 16 (fieldAt bytes 12 2)) (BitVec.ofNat 128 (fieldAt bytes 14 16)))
    else none
  else if code = 3 then
    let n := fieldAt bytes 8 4
    if n ≤ 65535 then
      if flags.getLsbD 0 then some (.poisoned (BitVec.ofNat 16 n))
      else some (.block (BitVec.ofNat 16 n) (blockLines bytes))
    else none
  else if code = 4 then
    some (.mark (BitVec.ofNat 16 (fieldAt bytes 8 2)) (flags.getLsbD 0) (flags.getLsbD 1))
  else if code = 5 then some .probe
  else if code = 8 then some (.helloAck (flags.getLsbD 0))
  else if code = 9 then some (.ack (flags.getLsbD 0))
  else if code = 10 then some (.nak (flags.getLsbD 0))
  else none

/-- The receiver's checks on the bytes of one frame, in the order of R131 and R132. Bytes that do not make
up a whole frame are framing errors (log 15). -/
def judgeBytes (role : Role) (bytes : List Byte) : RxVerdict :=
  match bytes with
  | byte0 :: byte1 :: _ =>
    let length := fieldAt bytes 6 2
    if !kindAccepted role (headerCode byte0) then .framing
    else if length ≠ requiredLength (headerCode byte0) (byte1.getLsbD 0) then .framing
    else if bytes.length ≠ 12 + length then .framing
    else if fieldAt bytes (8 + length) 4 ≠ (crc32 (bytes.take (8 + length))).toNat then .crcMismatch
    else
      match decodeBody bytes (headerCode byte0) byte1 with
      | none => .fieldRange
      | some body => .valid ⟨headerSession byte0, BitVec.ofNat 32 (fieldAt bytes 2 4), body⟩
  | _ => .framing

/-- Whether what the receiver met is a framing error for a part of this role (R131, conditions 1, 3, 4). -/
def isFramingError (role : Role) : FramingCheck → Bool
  | .badStopBit => true
  | .kindNotAccepted byte0 => !kindAccepted role (headerCode byte0)
  | .lengthOutOfRange byte0 byte1 length =>
    kindAccepted role (headerCode byte0) && length.toNat != requiredLength (headerCode byte0) (byte1.getLsbD 0)

end Sys2Proof.Machine
end

