-- ==== Sys2Proof/Machine/State.lean ====
section
/-! DEFINITION. The state of the part: plain data, holding every piece of state the spec names. -/

namespace Sys2Proof.Machine

/-- The reasons the part stops with a fault: none. The spec reports every error as a completion code, a
counter, a cause or a response, and the part goes on (log 27). -/
inductive Fault where
  deriving DecidableEq, Repr

/-- The reasons a command is refused by the model. -/
inductive Refusal where
  /-- Raised by `exec` alone, for a command that has no meaning yet; safe. No arm of exec uses it. -/
  | notModelled (mnemonic : String)
  deriving DecidableEq, Repr

/-! ### Service port and configuration (spec/10) -/

/-- Phases of a service-port transaction (R181), with the bytes that the port has received and still needs.
`deselected` is the port with SPSEL deasserted; `ignored` is a transaction begun before PORST was deasserted, which
the port ignores until SPSEL has been deasserted (R193). -/
inductive ServicePhase where
  | deselected
  | opcode
  | index (opcode : Byte)
  | data (opcode index : Byte) (received : List Byte)
  | response
  | done
  | ignored
  deriving DecidableEq, Repr

/-- Response codes (R181). -/
inductive Response where
  | accepted
  | refused
  | noRegister
  | busy
  deriving DecidableEq, Repr

/-- The service port: its phase, the DATA bytes it drives, the response of the transaction last judged, and
whether a SOFT_RESET waits for the end of its transaction (R181, R182, R188). -/
structure ServicePort where
  phase : ServicePhase
  dataOut : Word
  response : Option Response
  resetPending : Bool
  deriving DecidableEq, Repr

/-- The writable fields of CONTROL (spec/10, register summary). -/
structure Control where
  merge : Bool
  arb : ArbPolicy
  pace : PacePolicy
  linkEnable : Bool
  deriving DecidableEq, Repr

/-- LINKCFG, ACKCFG, KEEPCFG, PACECFG and COPYCFG, field by field (spec/10, register summary). -/
structure Settings where
  divisor : BitVec 8
  window : BitVec 6
  ackTimeout : BitVec 12
  retryLimit : BitVec 4
  keepalive : BitVec 14
  silence : BitVec 16
  highWatermark : BitVec 10
  copyCeiling : BitVec 9
  stallLimit : BitVec 10
  copyPacing : BitVec 10
  ackEvery : BitVec 5
  deriving DecidableEq, Repr

/-- Region modes (R45). -/
inductive RegionMode where
  | mirror
  | exclude
  deriving DecidableEq, Repr

/-- One entry of the region table (R45). -/
structure Region where
  enable : Bool
  base : Block
  limit : Block
  mode : RegionMode
  deriving DecidableEq, Repr

/-! ### System port (spec/03) -/

/-- Transaction kinds (R41, R65). -/
inductive TxnKind where
  | wordRead
  | lineRead
  | wordWrite
  | lineWrite
  deriving DecidableEq, Repr

/-- The transaction record of the system port (R41), with the lookup result kept in it (R48). A word
transaction uses the low four mask bits and the low 32 data bits. -/
structure Transaction where
  kind : TxnKind
  address : Addr
  mask : Mask
  data : Line
  lookup : Option Bool
  deriving DecidableEq, Repr

/-- Completion codes (R43). -/
inductive Completion where
  | ok
  | memError
  | fenced
  deriving DecidableEq, Repr

/-- Phases of the system port (R42). CAPTURING is entered and left within one step, so it is no resting
phase. `complete` holds the code given and, for a read, the data returned. -/
inductive SystemPhase where
  | idle
  | atMemory (t : Transaction)
  | held (t : Transaction)
  | complete (t : Transaction) (code : Completion) (data : Line)
  deriving DecidableEq, Repr

/-- The system port: its phase and the stall timer (R53). -/
structure SystemPort where
  phase : SystemPhase
  stallTimer : Timer
  deriving DecidableEq, Repr

/-! ### Memory port and arbiter (spec/04) -/

/-- The two classes of requester (R68). -/
inductive Requester where
  | system
  | engine
  deriving DecidableEq, Repr

/-- Identification of a copy read (R73). -/
structure ReadId where
  buffer : Fin 4
  seq : Seq
  line : Fin 64
  deriving DecidableEq, Repr

/-- The owner of a memory transaction, with the identification its request carried (R66, R73, R74). -/
inductive Owner where
  | system
  | copy (id : ReadId)
  | apply (seq : Seq) (line : Fin 64)
  deriving DecidableEq, Repr

/-- A memory transaction or a request for one (R65). -/
structure MemTransaction where
  kind : TxnKind
  address : Addr
  mask : Mask
  data : Line
  owner : Owner
  deriving DecidableEq, Repr

/-- What becomes of the answer of the transaction at memory (R76): passed to its owner, settled by the
system port under R63 after SRST, or dropped at the port after PORST or SOFT_RESET. -/
inductive AnswerFate where
  | passed
  | abandonedBySrst
  | dropped
  deriving DecidableEq, Repr

/-- Phases of the memory port (R66). -/
inductive MemoryPhase where
  | free
  | busy (t : MemTransaction) (fate : AnswerFate)
  | recovery
  deriving DecidableEq, Repr

/-- The memory port and its arbiter: phase, waiting requests, last-granted indication (R66, R68). -/
structure MemoryPort where
  phase : MemoryPhase
  systemRequest : Option MemTransaction
  engineRequest : Option MemTransaction
  lastGranted : Requester
  deriving DecidableEq, Repr

/-! ### Write journal (spec/01) -/

/-- Copy status of a BLOCK entry (R6). -/
inductive CopyStatus where
  | reading
  | ready
  | poisoned
  deriving DecidableEq, Repr

/-- Entry kinds and their own fields (R5, R6, R7). -/
inductive EntryBody where
  | write (line : Addr) (mask : Mask) (data : Line)
  | block (number : Block) (buffer : Fin 4) (status : CopyStatus)
  | mark (number : MarkNo) (consistent drain : Bool)
  deriving DecidableEq, Repr

/-- A journal entry (R4, R8). -/
structure Entry where
  seq : Seq
  sentOnce : Bool
  body : EntryBody
  deriving DecidableEq, Repr

/-- The journal: entries oldest first, the send point as a position among them (the end is the number of
entries), and the two counters (R4, R9, R10). -/
structure Journal where
  entries : List Entry
  sendPoint : Nat
  nextSeq : Seq
  lastAcked : Seq
  deriving DecidableEq, Repr

/-! ### Dirty map (spec/02) -/

/-- The dirty map (R28, R29): the dirty blocks in rising order (a block is dirty when it is listed), the
dirty count, which the map keeps by itself, and the scan cursor. Log 26. -/
structure DirtyMap where
  blocks : List Block
  count : Nat
  cursor : Block
  deriving DecidableEq, Repr

/-! ### Copy engine (spec/05) -/

/-- A copy buffer (R78): the seq of the BLOCK entry that owns it, or none when FREE, and its 64 lines. -/
structure CopyBuffer where
  owner : Option Seq
  lines : Vector Line 64
  deriving DecidableEq, Repr

/-- A copy record (R79). -/
structure CopyRecord where
  block : Block
  seq : Seq
  buffer : Fin 4
  nextLine : Fin 64
  poisoned : Bool
  deriving DecidableEq, Repr

/-- The copy engine (R78 to R85): buffers, records in the order of their seqs, the outstanding read, the
pause flag, the pacing timer, the pending start, and COPY_FAULT_BLOCK. -/
structure CopyEngine where
  buffers : Vector CopyBuffer 4
  records : List CopyRecord
  outstanding : Option ReadId
  paused : Bool
  pacingTimer : Timer
  pendingStart : Bool
  faultBlock : Block
  deriving DecidableEq, Repr

/-! ### Mirror controller (spec/06, spec/09) -/

/-- Origin mirror states (R97). -/
inductive MirrorState where
  | disabled
  | tracking
  | resyncing
  | synced
  deriving DecidableEq, Repr

/-- Replica states (R162). -/
inductive ReplicaState where
  | disabled
  | listening
  | applying
  deriving DecidableEq, Repr

/-- A pending mark request (R111, R114). -/
structure MarkRequest where
  number : MarkNo
  drain : Bool
  deriving DecidableEq, Repr

/-- What the controller keeps of a drain's MARK once it is appended (R112): its seq and consistent flag. -/
structure DrainMark where
  seq : Seq
  consistent : Bool
  deriving DecidableEq, Repr

/-- Drain state (R98): none pending, pending with its mark not yet appended, or pending on a MARK entry. -/
inductive DrainState where
  | clear
  | requested
  | appended (mark : DrainMark)
  deriving DecidableEq, Repr

/-- The mirror controller: the state of either role, and the items of R98. -/
structure Mirror where
  state : MirrorState
  replica : ReplicaState
  incomplete : Bool
  lastIssued : MarkNo
  lastAckedMark : MarkNo
  pendingMark : Option MarkRequest
  drain : DrainState
  drainConsistent : Bool
  drained : Bool
  deriving DecidableEq, Repr

/-! ### Session controller, transmitter, receiver (spec/07, spec/08) -/

/-- Link states (R137). -/
inductive LinkState where
  | off
  | down
  | connecting
  | up
  deriving DecidableEq, Repr

/-- The session controller (R137, R138). -/
structure Session where
  state : LinkState
  session : SessionNo
  helloTimer : Timer
  silenceTimer : Timer
  ackTimer : Timer
  timeouts : Nat
  partnerFresh : Bool
  deriving DecidableEq, Repr

/-- The shifter and TXD (R126, R127): at mark with the gap complete, at mark in the gap after a frame, a
break or a reset, sending a frame, finishing the character in progress of a frame cut short, or at space
for a break. -/
inductive TxLine where
  | idle
  | gap
  | sending (f : Frame)
  | finishing
  | space
  deriving DecidableEq, Repr

/-- The transmitter: control slot, data holding buffer, line, and a break requested but not begun. -/
structure Transmitter where
  slot : Option Frame
  buffer : Option Frame
  line : TxLine
  breakPending : Bool
  deriving DecidableEq, Repr

/-- Receiver conditions (R129). No row of the table marks a start bit, so a whole reception is one step and
IN FRAME is not left standing between steps (log 13). -/
inductive ReceiverPhase where
  | hunting
  | between
  | inFrame
  deriving DecidableEq, Repr

/-- A receive slot (R133): the whole frame as received, header, payload and CRC, and the frame that the receiver's
checks found it to be. -/
structure Slot where
  frame : Frame
  bytes : List Byte
  deriving DecidableEq, Repr

/-- The receiver: its condition, the occupied receive slots in order of arrival, and whether the break detector has
reported the run of space that RXD last stood in (R129, R133, R135). -/
structure Receiver where
  phase : ReceiverPhase
  slots : List Slot
  runReported : Bool
  deriving DecidableEq, Repr

/-! ### Apply engine (spec/09) -/

/-- Apply phases (R167). -/
inductive ApplyPhase where
  | idle
  | writing
  | abandoning
  deriving DecidableEq, Repr

/-- The apply engine (R167). The frame in hand, in WRITING and ABANDONING, is the one at the head of the
receive slots, where it is held (R134). -/
structure ApplyEngine where
  phase : ApplyPhase
  nextLine : Fin 64
  expected : Seq
  ackCount : Nat
  lastNaked : Option Seq
  coherent : Bool
  fresh : Bool
  fault : Bool
  lastMark : MarkNo
  lastConsistent : MarkNo
  lastAckSent : Seq
  deriving DecidableEq, Repr

/-! ### Reports between blocks -/

/-- A mark report to the mirror controller (R33). -/
structure MarkReport where
  block : Block
  wasClear : Bool
  deriving DecidableEq, Repr

/-- A MARK entry handed over by an acknowledge-through (R22, R113). -/
structure RemovedMark where
  seq : Seq
  number : MarkNo
  drain : Bool
  deriving DecidableEq, Repr

/-- Reports that their receivers have not yet taken, oldest first: "each block takes its report as its own
event" (R22, R33). -/
structure Reports where
  marks : List MarkReport
  mirrorAcks : List (List RemovedMark)
  captureAcks : Nat
  deriving DecidableEq, Repr

/-- The state of the part, with the queue of commands that wait and the counter of free choices. -/
structure State where
  role : Role
  porst : Bool
  srst : Bool
  markPin : Bool
  drainPin : Bool
  sp : ServicePort
  control : Control
  cfg : Settings
  causes : BitVec 13
  enables : BitVec 13
  counters : Vector (BitVec 16) 13
  regions : Vector Region 8
  sys : SystemPort
  mem : MemoryPort
  journal : Journal
  dirty : DirtyMap
  copy : CopyEngine
  mirror : Mirror
  link : Session
  tx : Transmitter
  rx : Receiver
  apply : ApplyEngine
  reports : Reports
  choices : Nat
  pending : List Instr
  deriving DecidableEq, Repr

/-! ### Reset values, each as its own chapter gives it -/

/-- Configuration defaults (R52, R84, R120, R140, R150, R167). -/
def Settings.defaults : Settings where
  divisor := 0
  window := 16
  ackTimeout := 1000
  retryLimit := 8
  keepalive := 500
  silence := 4000
  highWatermark := 448
  copyCeiling := 384
  stallLimit := 50
  copyPacing := 0
  ackEvery := 4

/-- CONTROL defaults (spec/10, register summary). -/
def Control.defaults : Control where
  merge := true
  arb := .alternate
  pace := .stall
  linkEnable := false

/-- A region entry after reset (R45). -/
def Region.defaults : Region where
  enable := false
  base := 0
  limit := 0
  mode := .exclude

/-- A copy buffer after reset: FREE (R80); its bytes are the model's choice (log 5). -/
def CopyBuffer.free : CopyBuffer where
  owner := none
  lines := Vector.replicate 64 0

/-- The service port after reset, waiting for SPSEL (R193); its data and response are the model's choice (log 3). -/
def ServicePort.reset : ServicePort where
  phase := .deselected
  dataOut := 0
  response := none
  resetPending := false

/-- The journal after reset (R10). -/
def Journal.reset : Journal where
  entries := []
  sendPoint := 0
  nextSeq := 1
  lastAcked := 0

/-- The dirty map after reset (R30), which is clear-all (R40). -/
def DirtyMap.empty : DirtyMap where
  blocks := []
  count := 0
  cursor := 0

/-- The copy engine after reset (R80). -/
def CopyEngine.reset : CopyEngine where
  buffers := Vector.replicate 4 CopyBuffer.free
  records := []
  outstanding := none
  paused := false
  pacingTimer := none
  pendingStart := false
  faultBlock := 0

/-- The mirror controller after reset (R97, R98, R162). -/
def Mirror.reset : Mirror where
  state := .disabled
  replica := .disabled
  incomplete := false
  lastIssued := 0
  lastAckedMark := 0
  pendingMark := none
  drain := .clear
  drainConsistent := false
  drained := false

/-- The session controller after reset (R138); the link enable is clear, so the link is OFF (R137). -/
def Session.reset : Session where
  state := .off
  session := 0
  helloTimer := none
  silenceTimer := none
  ackTimer := none
  timeouts := 0
  partnerFresh := false

/-- The transmitter after reset (R128). -/
def Transmitter.reset : Transmitter where
  slot := none
  buffer := none
  line := .gap
  breakPending := false

/-- The receiver after reset (R129, R134); the break detector counts from the moment the link leaves OFF (R135). -/
def Receiver.reset : Receiver where
  phase := .hunting
  slots := []
  runReported := false

/-- The apply engine after reset (R167). -/
def ApplyEngine.reset : ApplyEngine where
  phase := .idle
  nextLine := 0
  expected := 1
  ackCount := 0
  lastNaked := none
  coherent := false
  fresh := true
  fault := false
  lastMark := 0
  lastConsistent := 0
  lastAckSent := 0

/-- The memory port after a reset that finds no transaction (R77). -/
def MemoryPort.reset : MemoryPort where
  phase := .free
  systemRequest := none
  engineRequest := none
  lastGranted := .engine

/-- No report on its way. -/
def Reports.none : Reports where
  marks := []
  mirrorAcks := []
  captureAcks := 0

/-- The part right after power-on reset, PORST just deasserted with ROLE high and the other input pins
deasserted (log 1, log 2), with an empty queue. -/
def State.reset : State where
  role := .origin
  porst := false
  srst := false
  markPin := false
  drainPin := false
  sp := ServicePort.reset
  control := Control.defaults
  cfg := Settings.defaults
  causes := 0
  enables := 0
  counters := Vector.replicate 13 0
  regions := Vector.replicate 8 Region.defaults
  sys := ⟨.idle, .none⟩
  mem := MemoryPort.reset
  journal := Journal.reset
  dirty := DirtyMap.empty
  copy := CopyEngine.reset
  mirror := Mirror.reset
  link := Session.reset
  tx := Transmitter.reset
  rx := Receiver.reset
  apply := ApplyEngine.reset
  reports := Reports.none
  choices := 0
  pending := []

end Sys2Proof.Machine
end

