-- ==== Sys2Proof/Machine/Operands.lean ====
section
/-! DEFINITION. Operand forms: the master's transactions as records and as captured line writes (R41, R49),
bytes of a line under a mask, and the fields of the writable registers with their ranges (spec/10, register
summary; R184). -/

namespace Sys2Proof.Machine

/-! ### Lines, bytes, masks -/

/-- Byte `k` of a line (R5). -/
def lineByte (l : Line) (k : Nat) : Byte := l.extractLsb' (8 * k) 8

/-- The line whose byte `k` is `f k`. -/
def lineOfBytes (f : Nat → Byte) : Line := BitVec.ofNat 128 (ofLeBytes ((List.range 16).map f))

/-- The bytes of `new` where the mask is set, and those of `old` elsewhere (R14). -/
def overlayLine (mask : Mask) (new old : Line) : Line :=
  lineOfBytes fun k => if mask.getLsbD k then lineByte new k else lineByte old k

/-- A line with 0 in the bytes whose mask bit is clear (R13, step 2). -/
def maskedLine (mask : Mask) (data : Line) : Line := overlayLine mask data 0

/-- The line address of an address: its lowest four bits taken as 0 (R41, R49). -/
def lineAddress (a : Addr) : Addr := a &&& ~~~15#26

/-- The word address of an address: its two lowest bits taken as 0 (R41). -/
def wordAddress (a : Addr) : Addr := a &&& ~~~3#26

/-- The block number of an address: the address divided by 1,024 (00_scope.md, Block). -/
def blockOf (a : Addr) : Block := a.extractLsb' 10 16

/-! ### Transactions of the bus master -/

/-- Whether a transaction kind is a write. -/
def TxnKind.isWrite : TxnKind → Bool
  | .wordWrite | .lineWrite => true
  | .wordRead | .lineRead => false

/-- The transaction record of a master's request (R41): aligned address, mask and data for a write. -/
def recordOf : MasterRequest → Transaction
  | .wordRead a => ⟨.wordRead, wordAddress a, 0, 0, none⟩
  | .lineRead a => ⟨.lineRead, lineAddress a, 0, 0, none⟩
  | .wordWrite a m d => ⟨.wordWrite, wordAddress a, m.setWidth 16, d.setWidth 128, none⟩
  | .lineWrite a m d => ⟨.lineWrite, lineAddress a, m, d, none⟩

/-- The memory transaction that carries a record (R65): every byte enable for a read, the mask for a write. -/
def memTransactionOf (t : Transaction) : MemTransaction :=
  match t.kind with
  | .wordRead => ⟨.wordRead, t.address, 0xF, 0, .system⟩
  | .lineRead => ⟨.lineRead, t.address, 0xFFFF, 0, .system⟩
  | .wordWrite => ⟨.wordWrite, t.address, t.mask, t.data, .system⟩
  | .lineWrite => ⟨.lineWrite, t.address, t.mask, t.data, .system⟩

/-- The memory's answer to a whole transaction (R67): an ERROR on any beat makes it ERROR. -/
def wholeAnswer (beats : List MemAnswer) : MemAnswer := if MemAnswer.error ∈ beats then .error else .ok

/-- The offset in its line of the word a word transaction addresses: 0, 4, 8 or 12 (R49). -/
def wordOffset (a : Addr) : Nat := (a &&& 15#26).toNat

/-- The line mask of a captured write (R49). -/
def captureMask (t : Transaction) : Mask :=
  match t.kind with
  | .wordWrite => (t.mask &&& 0xF) <<< wordOffset t.address
  | _ => t.mask

/-- The line data of a captured write (R49): a word's bytes at its offset, 0 in the other twelve. -/
def captureData (t : Transaction) : Line :=
  match t.kind with
  | .wordWrite => (t.data &&& 0xFFFFFFFF) <<< (8 * wordOffset t.address)
  | _ => t.data

/-- The data a completed read returns (R41, R72): a word read returns one word (log 19). -/
def readData (k : TxnKind) (data : Line) : Line :=
  match k with
  | .wordRead => data &&& 0xFFFFFFFF
  | .lineRead => data
  | _ => 0

/-! ### Sequence numbers (R1) -/

/-- `a` precedes `b`: (b − a) modulo 2^32 lies in 1 to 2^31 − 1. -/
def precedes (a b : Seq) : Bool := 1 ≤ (b - a).toNat && (b - a).toNat ≤ 2 ^ 31 - 1

/-- `a` is at or before `b`. -/
def atOrBefore (a b : Seq) : Bool := precedes a b || a == b

/-- The successor of a session number: 1 for 0 and for 15 (R139). -/
def nextSession (n : SessionNo) : SessionNo := if n = 15 then 1 else n + 1

/-! ### Register fields and their ranges (R184) -/

/-- LINKCFG: divisor 7–0, window 21–16, window 1 to 32 (R120). -/
def writeLinkcfg (v : Word) (c : Settings) : Option Settings :=
  let window := v.extractLsb' 16 6
  if 1 ≤ window.toNat ∧ window.toNat ≤ 32 then some { c with divisor := v.extractLsb' 0 8, window := window }
  else none

/-- ACKCFG: ack timeout 11–0, 10 to 4,095; retry limit 19–16, 1 to 15 (R140). -/
def writeAckcfg (v : Word) (c : Settings) : Option Settings :=
  let ackTimeout := v.extractLsb' 0 12
  let retryLimit := v.extractLsb' 16 4
  if 10 ≤ ackTimeout.toNat ∧ 1 ≤ retryLimit.toNat then
    some { c with ackTimeout := ackTimeout, retryLimit := retryLimit }
  else none

/-- KEEPCFG: keepalive 13–0, 100 to 10,000; silence 31–16, 200 to 65,535 (R140). -/
def writeKeepcfg (v : Word) (c : Settings) : Option Settings :=
  let keepalive := v.extractLsb' 0 14
  let silence := v.extractLsb' 16 16
  if 100 ≤ keepalive.toNat ∧ keepalive.toNat ≤ 10000 ∧ 200 ≤ silence.toNat then
    some { c with keepalive := keepalive, silence := silence }
  else none

/-- PACECFG: high watermark 9–0, 16 to 512; copy ceiling 18–10; stall limit 29–20, 1 to 1,023 (R52). -/
def writePacecfg (v : Word) (c : Settings) : Option Settings :=
  let highWatermark := v.extractLsb' 0 10
  let stallLimit := v.extractLsb' 20 10
  if 16 ≤ highWatermark.toNat ∧ highWatermark.toNat ≤ 512 ∧ 1 ≤ stallLimit.toNat then
    some { c with highWatermark := highWatermark, copyCeiling := v.extractLsb' 10 9, stallLimit := stallLimit }
  else none

/-- COPYCFG: copy pacing interval 9–0; ack-every 20–16, 1 to 16 (R84, R167). -/
def writeCopycfg (v : Word) (c : Settings) : Option Settings :=
  let ackEvery := v.extractLsb' 16 5
  if 1 ≤ ackEvery.toNat ∧ ackEvery.toNat ≤ 16 then
    some { c with copyPacing := v.extractLsb' 0 10, ackEvery := ackEvery }
  else none

/-- The ranges of the configuration fields (R184), which every write keeps. -/
def Settings.inRange (c : Settings) : Bool :=
  decide (1 ≤ c.window.toNat ∧ c.window.toNat ≤ 32 ∧ 10 ≤ c.ackTimeout.toNat ∧ 1 ≤ c.retryLimit.toNat ∧
    100 ≤ c.keepalive.toNat ∧ c.keepalive.toNat ≤ 10000 ∧ 200 ≤ c.silence.toNat ∧
    16 ≤ c.highWatermark.toNat ∧ c.highWatermark.toNat ≤ 512 ∧ 1 ≤ c.stallLimit.toNat ∧
    1 ≤ c.ackEvery.toNat ∧ c.ackEvery.toNat ≤ 16)

/-- A write of one REGION register changes the fields of that register only (R45). -/
def writeRegion (half : RegionHalf) (v : Word) (r : Region) : Region :=
  match half with
  | .base => { r with enable := v.getLsbD 31, base := v.extractLsb' 0 16, mode := if v.getLsbD 16 then .mirror else .exclude }
  | .limit => { r with limit := v.extractLsb' 0 16 }

/-- REGIONn base as read (spec/10, register summary). -/
def readRegionBase (r : Region) : Word :=
  (BitVec.ofBool r.enable ++ (0#14 ++ (BitVec.ofBool (r.mode = .mirror) ++ r.base)))

end Sys2Proof.Machine
end

