-- ==== Sys2Proof/Machine/Flags.lean ====
section
/-! DEFINITION. Causes, counters and outputs (R190 to R192, R118, R180). -/

namespace Sys2Proof.Machine

/-- The thirteen interrupt causes (R191). -/
inductive Cause where
  | linkUp
  | linkDown
  | synced
  | syncLost
  | stallExpired
  | copyFault
  | replicaFault
  | markAcked
  | markRefused
  | drainDone
  | drainFailed
  | rxError
  | fence
  deriving DecidableEq, Repr

/-- The position of a cause in CAUSE and ENABLE (R191). -/
def Cause.bit : Cause → Nat
  | .linkUp => 0
  | .linkDown => 1
  | .synced => 2
  | .syncLost => 3
  | .stallExpired => 4
  | .copyFault => 5
  | .replicaFault => 6
  | .markAcked => 7
  | .markRefused => 8
  | .drainDone => 9
  | .drainFailed => 10
  | .rxError => 11
  | .fence => 12

/-- The thirteen counters (R190); index 0x3A is COPY_FAULTS in the origin and POISONED_RX in the replica. -/
inductive Counter where
  | retransmits
  | ackTimeouts
  | rxCrc
  | rxFraming
  | rxOverrun
  | rxStale
  | protocol
  | stalls
  | stallExpiries
  | fenced
  | copyFaultsOrPoisonedRx
  | applyFaults
  | linkDowns
  deriving DecidableEq, Repr

/-- The place of a counter: its register index less 0x30 (R190). -/
def Counter.index : Counter → Fin 13
  | .retransmits => 0
  | .ackTimeouts => 1
  | .rxCrc => 2
  | .rxFraming => 3
  | .rxOverrun => 4
  | .rxStale => 5
  | .protocol => 6
  | .stalls => 7
  | .stallExpiries => 8
  | .fenced => 9
  | .copyFaultsOrPoisonedRx => 10
  | .applyFaults => 11
  | .linkDowns => 12

/-- Raise a cause: its bit is set and stays set (R191). -/
def raise (c : Cause) (s : State) : State := { s with causes := s.causes ||| (1#13 <<< c.bit) }

/-- Whether a cause is set. -/
def State.hasCause (s : State) (c : Cause) : Bool := s.causes.getLsbD c.bit

/-- The next value of a counter: 65,535 stays (R190). -/
def saturate (n : BitVec 16) : BitVec 16 := if n = 65535 then n else n + 1

/-- Count one event (R190). -/
def bump (c : Counter) (s : State) : State :=
  { s with counters := s.counters.set c.index (saturate s.counters[c.index]) }

/-- The value of a counter. -/
def State.counter (s : State) (c : Counter) : BitVec 16 := s.counters[c.index]

/-- IRQ: at least one cause set whose enable is set (R192). -/
def State.irq (s : State) : Bool := s.causes &&& s.enables != 0

/-- SYNC: the origin's present consistency (R118), the replica's coherent flag (R180). While the report of a mark waits,
the origin's state is still SYNCED and SYNC high (log 34). -/
def State.sync (s : State) : Bool :=
  match s.role with
  | .origin => s.mirror.state == .synced && !s.mirror.incomplete
  | .replica => s.apply.coherent

/-- The held indication of STATUS (R64). -/
def State.held (s : State) : Bool :=
  match s.sys.phase with
  | .held _ => true
  | _ => false

/-- A frame discarded for a failed check: its counter and the cause RX_ERROR (R131, R132). -/
def rxDiscard (c : Counter) (s : State) : State := raise .rxError (bump c s)

end Sys2Proof.Machine
end

