-- ==== Sys2Proof/Machine/Ops.lean ====
section
/-! DEFINITION. The named operations over the part's stores: region table (R46), dirty map (R32 to R40),
journal (R9 to R27), copy buffers (R78), and memory port (R66 to R77). -/

namespace Sys2Proof.Machine

/-! ### Region table -/

/-- Whether an entry is enabled and its range contains the block (R46). -/
def Region.contains (r : Region) (b : Block) : Bool :=
  r.enable && decide (r.base.toNat ≤ b.toNat) && decide (b.toNat ≤ r.limit.toNat)

/-- Lookup of a block: the lowest-numbered matching entry decides (R46). -/
def lookupBlock (table : List Region) (b : Block) : Bool :=
  match table.find? (fun r => r.contains b) with
  | some r => r.mode == .mirror
  | none => false

/-- Lookup of an address (R46). -/
def State.mirrored (s : State) (a : Addr) : Bool := lookupBlock s.regions.toList (blockOf a)

/-! ### Dirty map -/

/-- A block put into a rising list of blocks, once. -/
def insertBlock (b : Block) : List Block → List Block
  | [] => [b]
  | c :: cs => if b.toNat < c.toNat then b :: c :: cs else if b = c then c :: cs else c :: insertBlock b cs

/-- The blocks `lo`, `lo + 1`, … of a run of `n`. -/
def blockRun (lo n : Nat) : List Block := (List.range' lo n).map (BitVec.ofNat 16)

/-- The blocks that a table mirrors, in rising order (R35, R46): an earlier entry overrides the later ones
on its own range. -/
def mirroredBlocks : List Region → List Block
  | [] => []
  | r :: rs =>
    let later := (mirroredBlocks rs).filter (fun b => !r.contains b)
    if r.enable && r.mode == .mirror then
      (blockRun r.base.toNat (r.limit.toNat + 1 - r.base.toNat)).foldr insertBlock later
    else later

/-- Mark (R32): the bit is set, and counts once. -/
def DirtyMap.mark (b : Block) (m : DirtyMap) : DirtyMap :=
  if b ∈ m.blocks then m else { m with blocks := insertBlock b m.blocks, count := m.count + 1 }

/-- Seed (R35): every mirrored block is set, the count recounted, the cursor set to 0. -/
def DirtyMap.seed (table : List Region) (m : DirtyMap) : DirtyMap :=
  let blocks := (mirroredBlocks table).foldr insertBlock m.blocks
  { blocks := blocks, count := blocks.length, cursor := 0 }

/-- The block a take-next finds (R37): the first dirty one from the cursor upward, else from 0 upward. -/
def DirtyMap.next (m : DirtyMap) : Option Block :=
  match m.blocks.find? (fun b => decide (m.cursor.toNat ≤ b.toNat)) with
  | some b => some b
  | none => m.blocks.head?

/-- Take-next (R37, R39): the found block and the map without it, the cursor past it; or "none". -/
def DirtyMap.takeNext (m : DirtyMap) : Option (Block × DirtyMap) :=
  match m.next with
  | some b => some (b, { blocks := m.blocks.filter (fun c => c != b), count := m.count - 1, cursor := b + 1 })
  | none => none

/-! ### Journal -/

/-- Occupancy (R9). -/
def Journal.occupancy (j : Journal) : Nat := j.entries.length

/-- In-flight count: the entries from the head up to the send point (R9). -/
def Journal.inFlight (j : Journal) : Nat := j.sendPoint

/-- Head sequence (R9). -/
def Journal.headSeq (j : Journal) : Seq :=
  match j.entries.head? with
  | some e => e.seq
  | none => j.nextSeq

/-- Send sequence (R9). -/
def Journal.sendSeq (j : Journal) : Seq :=
  match j.entries[j.sendPoint]? with
  | some e => e.seq
  | none => j.nextSeq

/-- The tail (R9). -/
def Journal.tail? (j : Journal) : Option Entry := j.entries.getLast?

/-- Whether an append or a reservation finds the journal full (R11). -/
def Journal.full (j : Journal) : Bool := decide (Sys2Proof.Config.journalCapacity ≤ j.occupancy)

/-- The step that adds an entry (R13, R16): the next sequence number, sent-once clear, at the tail. A send
point at the end lies at the new entry afterwards, since it is a position. -/
def Journal.push (body : EntryBody) (j : Journal) : Journal :=
  { j with entries := j.entries ++ [⟨j.nextSeq, false, body⟩], nextSeq := j.nextSeq + 1 }

/-- Append (R13) and reserve block (R16): none where the journal answers "full" (R11). -/
def Journal.append (body : EntryBody) (j : Journal) : Option Journal := if j.full then none else some (j.push body)

/-- A captured write as an entry's fields: bytes with a clear mask bit stored as 0 (R5, R13). -/
def writeBody (line : Addr) (mask : Mask) (data : Line) : EntryBody := .write line mask (maskedLine mask data)

/-- Whether a frame in the data holding buffer is the frame of this entry (R14). -/
def isBuffered (buffer : Option Frame) (e : Entry) : Bool :=
  match buffer with
  | some f => f.seq == e.seq
  | none => false

/-- Whether a captured write may merge into the tail (R14). -/
def Journal.mergeEligible (enabled : Bool) (buffer : Option Frame) (line : Addr) (j : Journal) : Bool :=
  match j.tail? with
  | some e =>
    match e.body with
    | .write l _ _ => l == line && !e.sentOnce && !isBuffered buffer e && enabled
    | _ => false
  | none => false

/-- An entry with a captured write folded in (R14). -/
def mergeEntry (mask : Mask) (data : Line) (e : Entry) : Entry :=
  match e.body with
  | .write l m d => { e with body := .write l (m ||| mask) (overlayLine mask data d) }
  | _ => e

/-- Merge (R14): the tail takes the captured bytes. -/
def Journal.merge (mask : Mask) (data : Line) (j : Journal) : Journal :=
  { j with entries := j.entries.modify (j.entries.length - 1) (mergeEntry mask data) }

/-- Complete block on one entry (R17). -/
def completeEntry (seq : Seq) (buffer : Fin 4) (status : CopyStatus) (e : Entry) : Entry :=
  match e.body with
  | .block n b .reading => if e.seq = seq ∧ b = buffer then { e with body := .block n b status } else e
  | _ => e

/-- Complete block (R17): the READING entry of that seq and buffer takes the result. -/
def Journal.completeBlock (seq : Seq) (buffer : Fin 4) (status : CopyStatus) (j : Journal) : Journal :=
  { j with entries := j.entries.map (completeEntry seq buffer status) }

/-- Whether an entry is a BLOCK entry in status READING (R20). -/
def Entry.isReading (e : Entry) : Bool :=
  match e.body with
  | .block _ _ .reading => true
  | _ => false

/-- The journal after its entry at the send point is loaded (R18): sent-once set, send point past it. -/
def Journal.loaded (j : Journal) : Journal :=
  { j with entries := j.entries.modify j.sendPoint (fun e => { e with sentOnce := true }), sendPoint := j.sendPoint + 1 }

/-- Whether acknowledge-through `n` removes an entry at the head (R21). -/
def Entry.acknowledgedBy (n : Seq) (e : Entry) : Bool := atOrBefore e.seq n && e.sentOnce

/-- The entries that acknowledge-through `n` removes, oldest first (R21). -/
def Journal.removedBy (n : Seq) (j : Journal) : List Entry := j.entries.takeWhile (fun e => e.acknowledgedBy n)

/-- The journal after acknowledge-through `n` (R21): a send point at a removed entry moves to the new head. -/
def Journal.acknowledged (n : Seq) (j : Journal) : Journal :=
  let removed := j.removedBy n
  { j with
    entries := j.entries.drop removed.length
    sendPoint := j.sendPoint - removed.length
    lastAcked := match removed.getLast? with
      | some e => e.seq
      | none => j.lastAcked }

/-- The sent limit (R152): the seq of the youngest entry with sent-once set, else the head sequence − 1. -/
def Journal.sentLimit (j : Journal) : Seq :=
  match (j.entries.filter (fun e => e.sentOnce)).getLast? with
  | some e => e.seq
  | none => j.headSeq - 1

/-- Where a rewind to `target` puts the send point (R23). -/
def Journal.rewindPoint (target : Seq) (j : Journal) : Nat :=
  if j.entries.isEmpty then j.sendPoint
  else if precedes target j.headSeq then 0
  else if atOrBefore j.headSeq target && atOrBefore target j.sendSeq then (target - j.headSeq).toNat
  else j.sendPoint

/-- The journal emptied by a spill or a discard (R25, R27): both counters kept. -/
def Journal.emptied (j : Journal) : Journal := { j with entries := [], sendPoint := 0 }

/-- The block a spill marks for an entry (R25). -/
def Entry.spillBlock (e : Entry) : Option Block :=
  match e.body with
  | .write line _ _ => some (blockOf line)
  | .block number _ _ => some number
  | .mark .. => none

/-- Whether an entry is a BLOCK entry. -/
def Entry.isBlock (e : Entry) : Bool :=
  match e.body with
  | .block .. => true
  | _ => false

/-- Whether an entry is a MARK of a drain (R7). -/
def Entry.isDrainMark (e : Entry) : Bool :=
  match e.body with
  | .mark _ _ drain => drain
  | _ => false

/-- What an acknowledge-through hands the mirror controller of an entry (R22). -/
def Entry.removedMark (e : Entry) : Option RemovedMark :=
  match e.body with
  | .mark number _ drain => some ⟨e.seq, number, drain⟩
  | _ => none

/-! ### Copy buffers -/

/-- Whether a copy buffer is FREE (R78). -/
def CopyBuffer.isFree (b : CopyBuffer) : Bool := b.owner.isNone

/-- The lowest-numbered FREE buffer (R86). -/
def CopyEngine.freeBuffer (c : CopyEngine) : Option (Fin 4) :=
  (List.finRange 4).find? (fun i => c.buffers[i].isFree)

/-- Free the buffer of a BLOCK entry that leaves the journal (R78). -/
def CopyEngine.freeBufferOf (e : Entry) (c : CopyEngine) : CopyEngine :=
  match e.body with
  | .block _ b _ => { c with buffers := c.buffers.set b { c.buffers[b] with owner := none } }
  | _ => c

/-- Free the buffers of a run of entries that leave the journal (R22, R25, R27). -/
def CopyEngine.freeBuffersOf (es : List Entry) (c : CopyEngine) : CopyEngine :=
  es.foldl (fun c e => c.freeBufferOf e) c

/-- The number of copy buffers not FREE, which is the number of BLOCK entries (R78). -/
def CopyEngine.ownedCount (c : CopyEngine) : Nat := (c.buffers.toList.filter (fun b => !b.isFree)).length

/-- A line put into a buffer (R89). -/
def CopyEngine.storeLine (i : Fin 4) (line : Fin 64) (data : Line) (c : CopyEngine) : CopyEngine :=
  { c with buffers := c.buffers.set i { c.buffers[i] with lines := c.buffers[i].lines.set line data } }

/-! ### Memory port -/

/-- Grant a request: the port is BUSY with it, and the arbiter remembers its class (R66, R68). -/
def MemoryPort.grant (r : Requester) (t : MemTransaction) (p : MemoryPort) : MemoryPort :=
  { p with phase := .busy t .passed, lastGranted := r }

/-- A request of the system port arrives (R69): granted at once at a FREE port, else it waits. -/
def MemoryPort.requestSystem (t : MemTransaction) (p : MemoryPort) : MemoryPort :=
  match p.phase with
  | .free => p.grant .system t
  | _ => { p with systemRequest := some t }

/-- A request of the engine requester arrives (R69). -/
def MemoryPort.requestEngine (t : MemTransaction) (p : MemoryPort) : MemoryPort :=
  match p.phase with
  | .free => p.grant .engine t
  | _ => { p with engineRequest := some t }

/-- The decision at the memory's ready indication in RECOVERY (R69). -/
def MemoryPort.arbitrate (policy : ArbPolicy) (p : MemoryPort) : MemoryPort :=
  match p.systemRequest, p.engineRequest with
  | none, none => { p with phase := .free }
  | some t, none => { p with systemRequest := none }.grant .system t
  | none, some t => { p with engineRequest := none }.grant .engine t
  | some t, some u =>
    if policy = .systemFirst ∨ p.lastGranted = .engine then { p with systemRequest := none }.grant .system t
    else { p with engineRequest := none }.grant .engine u

/-- Memory signals ready (R66, R69): only RECOVERY awaits it. -/
def MemoryPort.ready (policy : ArbPolicy) (p : MemoryPort) : MemoryPort :=
  match p.phase with
  | .recovery => p.arbitrate policy
  | _ => p

/-- The answer has been taken (R66). -/
def MemoryPort.answered (p : MemoryPort) : MemoryPort := { p with phase := .recovery }

/-- The system port's waiting request is withdrawn (R75). -/
def MemoryPort.withdrawSystem (p : MemoryPort) : MemoryPort := { p with systemRequest := none }

/-- The engine requester's waiting request is withdrawn (R75). -/
def MemoryPort.withdrawEngine (p : MemoryPort) : MemoryPort := { p with engineRequest := none }

/-- SRST finds a system transaction at memory (R76): its owner is marked abandoned. -/
def MemoryPort.abandonSystem (p : MemoryPort) : MemoryPort :=
  match p.phase with
  | .busy t .passed => if t.owner = .system then { p with phase := .busy t .abandonedBySrst } else p
  | _ => p

/-- The port through SOFT_RESET (R75, R76, R77): a system transaction and a waiting system request are kept,
an engine transaction is abandoned and an engine request withdrawn. -/
def MemoryPort.softReset (p : MemoryPort) : MemoryPort :=
  { phase := match p.phase with
      | .busy t fate => if t.owner = .system then .busy t fate else .busy t .dropped
      | other => other
    systemRequest := p.systemRequest
    engineRequest := none
    lastGranted := .engine }

/-- The port through PORST (R76, R77): a transaction at memory is kept and its answer dropped. -/
def MemoryPort.powerReset (p : MemoryPort) : MemoryPort :=
  { phase := match p.phase with
      | .busy t _ => .busy t .dropped
      | other => other
    systemRequest := none
    engineRequest := none
    lastGranted := .engine }

end Sys2Proof.Machine
end

