-- ==== Sys2Proof/Machine/Reports.lean ====
section
/-! DEFINITION. Operations that several blocks share: marks and their reports (R33), the copy engine's
examination of its conditions (R82, R83), the check for SYNCED (R102), timers (R2), and PORST's hold on the
part (R193). -/

namespace Sys2Proof.Machine

/-- While PORST is asserted the part takes no event from the bus master, the link or the service port (R193). -/
def unlessPorst (f : State → State) (s : State) : State := if s.porst then s else f s

/-- The conditions under which the copy engine decides a start (R82). -/
def State.mayDecideCopy (s : State) : Bool :=
  s.mirror.state == .resyncing && s.link.state == .up && !s.copy.paused && s.copy.freeBuffer.isSome &&
    decide (s.journal.occupancy < s.cfg.copyCeiling.toNat) && s.copy.pacingTimer.isNone &&
    decide (0 < s.dirty.count) && !s.copy.pendingStart

/-- The copy engine examines its conditions, and a start becomes pending when all hold (R82, R83). -/
def examineCopy (s : State) : State := if s.mayDecideCopy then { s with copy.pendingStart := true } else s

/-- A mark with its report to the mirror controller, taken later as an event of its own (R32, R33). -/
def markDirty (b : Block) (s : State) : State :=
  { s with
    dirty := s.dirty.mark b
    reports.marks := s.reports.marks ++ [⟨b, !decide (b ∈ s.dirty.blocks)⟩] }

/-- A mark made inside the link-loss transition, which is part of it and makes no report (R33, R101). -/
def markWithin (b : Block) (s : State) : State := { s with dirty := s.dirty.mark b }

/-- Seed the dirty map from the region table (R35). -/
def seedDirty (s : State) : State := { s with dirty := s.dirty.seed s.regions.toList }

/-- Whether the check for SYNCED succeeds: count 0 and no BLOCK entry in the journal, in RESYNCING (R102). -/
def State.readyForSynced (s : State) : Bool :=
  s.mirror.state == .resyncing && s.dirty.count == 0 && !s.journal.entries.any (fun e => e.isBlock)

/-- The check for SYNCED (R102). -/
def checkSynced (s : State) : State :=
  if s.readyForSynced then raise .synced { s with mirror.state := .synced } else s

/-- The system port gives the master a completion (R42, R43). -/
def completeSystem (t : Transaction) (code : Completion) (data : Line) (s : State) : State :=
  { s with sys.phase := .complete t code data }

/-- A held write is released with completion OK: the stall timer stops and the hold ends (R53). -/
def releaseHeld (t : Transaction) (s : State) : State := { s with sys := ⟨.complete t .ok 0, none⟩ }

/-- Empty the data holding buffer of a frame that has not begun to leave the shifter (R23, R25, R27). -/
def emptyBuffer (s : State) : State := { s with tx.buffer := none }

end Sys2Proof.Machine
end

