-- ==== Sys2Proof/Machine/Transmitter.lean ====
section
/-! DEFINITION. The link transmitter (R124 to R128) and loading from the journal (R18 to R20, R150). -/

namespace Sys2Proof.Machine

/-- What the control slot holds after a frame is offered (R124): a pending HELLO_ACK is not replaced by an
ACK or NAK. -/
def offeredSlot (slot : Option Frame) (f : Frame) : Option Frame :=
  match slot, f.body with
  | some ⟨session, seq, .helloAck fresh⟩, .ack _ => some ⟨session, seq, .helloAck fresh⟩
  | some ⟨session, seq, .helloAck fresh⟩, .nak _ => some ⟨session, seq, .helloAck fresh⟩
  | _, _ => some f

/-- Offer a control frame with the session current at the offer (R124): the slot holds frames in every link
state but OFF. -/
def offerControl (seq : Seq) (body : FrameBody) (s : State) : State :=
  if s.link.state = .off then s
  else { s with tx.slot := offeredSlot s.tx.slot ⟨s.link.session, seq, body⟩ }

/-- The transmitter empties its control slot and its holding buffer (R127, R128). -/
def emptyTransmitter (s : State) : State := { s with tx.slot := none, tx.buffer := none }

/-- The session controller requests a break (R127): slot and buffer emptied, a frame on the line cut after
its character in progress; a break already pending or being sent is the one that is sent. -/
def requestBreak (s : State) : State :=
  let s := emptyTransmitter s
  match s.tx.line with
  | .space => s
  | .sending _ => { s with tx.line := .finishing, tx.breakPending := true }
  | _ => { s with tx.breakPending := true }

/-- The line when the link enters OFF (R128): the character in progress completed, a break ended at once. -/
def lineIntoOff : TxLine → TxLine
  | .sending _ => .finishing
  | .space => .gap
  | other => other

/-- The transmitter when the link enters OFF (R128). -/
def transmitterIntoOff (s : State) : State :=
  { s with tx := ⟨none, none, lineIntoOff s.tx.line, false⟩ }

/-- The frame a load builds from an entry (R19); none for a READING block, which is not loaded (R20). -/
def frameOf (session : SessionNo) (buffers : Vector CopyBuffer 4) (e : Entry) : Option Frame :=
  match e.body with
  | .write line mask data => some ⟨session, e.seq, .write line mask data⟩
  | .block number b .ready => some ⟨session, e.seq, .block number buffers[b].lines⟩
  | .block number _ .poisoned => some ⟨session, e.seq, .poisoned number⟩
  | .block _ _ .reading => none
  | .mark number consistent drain => some ⟨session, e.seq, .mark number consistent drain⟩

/-- The conditions of a load on role, link, buffer and window (R150). -/
def State.mayLoad (s : State) : Bool :=
  s.role == .origin && s.link.state == .up && s.tx.buffer.isNone && decide (s.journal.inFlight < s.cfg.window.toNat)

/-- The effect of a load of entry `e` as frame `f` (R18). -/
def takeLoad (e : Entry) (f : Frame) (s : State) : State :=
  let s := if e.sentOnce then bump .retransmits s else s
  { s with journal := s.journal.loaded, tx.buffer := some f }

/-- The transmitter offers a load (R18, R20, R150). -/
def offerLoad (s : State) : State :=
  if s.mayLoad then
    match s.journal.entries[s.journal.sendPoint]? with
    | some e =>
      match frameOf s.link.session s.copy.buffers e with
      | some f => takeLoad e f s
      | none => s
    | none => s
  else s

/-- In UP the origin's hello/keepalive timer stops while a frame is on the line (R142). -/
def stopKeepaliveInUp (s : State) : State :=
  if s.role = .origin ∧ s.link.state = .up then { s with link.helloTimer := none } else s

/-- What the shifter takes at a boundary (R126): the control frame, else the data frame, else nothing. -/
def boundaryTake (s : State) : State :=
  match s.tx.slot, s.tx.buffer with
  | some f, _ => stopKeepaliveInUp { s with tx.slot := none, tx.line := .sending f }
  | none, some f => stopKeepaliveInUp { s with tx.buffer := none, tx.line := .sending f }
  | none, none => { s with tx.line := .idle }

/-- Whether a frame boundary can come (R126): link not OFF, no break pending or sent, no frame on the line. -/
def State.atBoundary (s : State) : Bool :=
  s.link.state != .off && !s.tx.breakPending &&
    match s.tx.line with
    | .idle | .gap | .finishing => true
    | .sending _ | .space => false

/-- A frame boundary (R126). -/
def frameBoundary (s : State) : State := if s.atBoundary then boundaryTake s else s

/-- The session controller takes the end-of-frame report in UP (R142, R151). -/
def endOfFrameReport (f : Frame) (s : State) : State :=
  if s.role = .origin ∧ s.link.state = .up then
    { s with
      link.helloTimer := some s.cfg.keepalive.toNat
      link.ackTimer :=
        if f.body.isData && decide (0 < s.journal.inFlight) then some s.cfg.ackTimeout.toNat else s.link.ackTimer }
  else s

/-- The shifter finishes a frame and reports its end (R126). -/
def frameEnd (s : State) : State :=
  match s.tx.line with
  | .sending f => endOfFrameReport f { s with tx.line := .gap }
  | _ => s

/-- A requested break begins once the character and the gap in progress are over (R127). -/
def breakStart (s : State) : State :=
  if s.tx.breakPending then
    match s.tx.line with
    | .sending _ | .space => s
    | _ => { s with tx.line := .space, tx.breakPending := false }
  else s

/-- The end of a break: the line returns to mark (R127). -/
def breakEnd (s : State) : State :=
  match s.tx.line with
  | .space => { s with tx.line := .gap }
  | _ => s

/-- LOAD (R18). -/
def execLoad (s : State) : Host.Outcome State Fault Refusal := .next (unlessPorst offerLoad s)

/-- FRAME_BOUNDARY (R126). -/
def execFrameBoundary (s : State) : Host.Outcome State Fault Refusal := .next (unlessPorst frameBoundary s)

/-- FRAME_END (R126). -/
def execFrameEnd (s : State) : Host.Outcome State Fault Refusal := .next (unlessPorst frameEnd s)

/-- BREAK_START (R127). -/
def execBreakStart (s : State) : Host.Outcome State Fault Refusal := .next (unlessPorst breakStart s)

/-- BREAK_END (R127). -/
def execBreakEnd (s : State) : Host.Outcome State Fault Refusal := .next (unlessPorst breakEnd s)

end Sys2Proof.Machine
end

