-- ==== Sys2Proof/Machine/ApplyEngine.lean ====
section
/-! DEFINITION. The apply engine and the replica's receive slots (spec/09, R134). -/

namespace Sys2Proof.Machine

/-- A frame at the head of the slots is released (R134). -/
def releaseSlot (s : State) : State := { s with rx.slots := s.rx.slots.tail }

/-- A flush empties every slot but that of a frame whose apply is in progress (R134). -/
def flushSlots (s : State) : State :=
  match s.apply.phase with
  | .idle => { s with rx.slots := [] }
  | .writing | .abandoning => { s with rx.slots := s.rx.slots.take 1 }

/-! ### Acknowledgement -/

/-- Offer an ACK for expected − 1 (R174). -/
def offerAck (s : State) : State :=
  offerControl (s.apply.expected - 1) (.ack s.apply.fault)
    { s with apply.ackCount := 0, apply.lastAckSent := s.apply.expected - 1 }

/-- Offer a NAK for expected (R174, R176). -/
def offerNak (s : State) : State :=
  offerControl s.apply.expected (.nak s.apply.fault)
    { s with apply.ackCount := 0, apply.lastNaked := some s.apply.expected }

/-- The end of an apply (R173). -/
def applyEnd (s : State) : State :=
  let s := releaseSlot { s with
    apply.expected := s.apply.expected + 1
    apply.fresh := false
    apply.phase := .idle
    apply.ackCount := s.apply.ackCount + 1 }
  if s.cfg.ackEvery.toNat ≤ s.apply.ackCount ∨ s.rx.slots = [] then offerAck s else s

/-! ### Applying a frame -/

/-- Present a LINE WRITE of the frame in hand (R68, R74). -/
def presentWrite (seq : Seq) (line : Fin 64) (address : Addr) (mask : Mask) (data : Line) (s : State) : State :=
  { s with mem := s.mem.requestEngine ⟨.lineWrite, address, mask, data, .apply seq line⟩ }

/-- Present the write of one line of a BLOCK frame (R170). -/
def presentBlockLine (seq : Seq) (number : Block) (lines : Vector Line 64) (i : Fin 64) (s : State) : State :=
  presentWrite seq i (BitVec.ofNat 26 (number.toNat * 1024 + i.val * 16)) 0xFFFF lines[i] s

/-- A MARK next in line (R172). -/
def applyMark (number : MarkNo) (consistent : Bool) (s : State) : State :=
  if consistent && !s.apply.fault then
    applyEnd { s with apply.lastMark := number, apply.coherent := true, apply.lastConsistent := number }
  else applyEnd { s with apply.lastMark := number, apply.coherent := false }

/-- A poisoned BLOCK next in line (R171). -/
def applyPoisoned (s : State) : State :=
  applyEnd (bump .copyFaultsOrPoisonedRx { s with apply.coherent := false })

/-- The engine enters WRITING with the head frame in hand (R169, R170). -/
def enterWriting (s : State) : State := { s with apply.phase := .writing, apply.nextLine := 0 }

/-- A data frame next in line is applied (R169 to R172). Other kinds take no slot (R133). -/
def applyFrame (f : Frame) (s : State) : State :=
  match f.body with
  | .write line mask data => presentWrite f.seq 0 line mask data (enterWriting s)
  | .block number lines =>
    presentBlockLine f.seq number lines 0 (enterWriting { s with apply.coherent := false })
  | .poisoned _ => applyPoisoned s
  | .mark number consistent _ => applyMark number consistent s
  | .probe | .hello | .helloAck _ | .ack _ | .nak _ => releaseSlot s

/-- A gap (R176): one NAK for each expected value. -/
def takeGap (s : State) : State :=
  if s.apply.lastNaked = some s.apply.expected then releaseSlot s else offerNak (releaseSlot s)

/-- Whether a frame is stale (R168, case 1): of another session, or taken with no session (log 12). -/
def State.isStale (s : State) (f : Frame) : Bool := f.session != s.link.session || s.link.session == 0

/-- The apply engine judges the head frame (R168): the first case that applies. -/
def judgeFrame (f : Frame) (s : State) : State :=
  if s.isStale f then bump .rxStale (releaseSlot s)
  else if f.body = .probe then offerAck (releaseSlot s)
  else if f.seq = s.apply.expected then applyFrame f s
  else if precedes f.seq s.apply.expected then offerAck (bump .rxStale (releaseSlot s))
  else if precedes s.apply.expected f.seq then takeGap s
  else bump .protocol (releaseSlot s)

/-- In IDLE the engine takes the frame at the head of the queue (R168). -/
def applyTakeFrame (s : State) : State :=
  if s.role = .replica ∧ s.apply.phase = .idle then
    match s.rx.slots with
    | c :: _ => judgeFrame c.frame s
    | [] => s
  else s

/-- An apply write answered ERROR (R177). In DISABLED the apply-fault flag is left clear. -/
def applyFault (s : State) : State :=
  bump .applyFaults { s with
    apply.coherent := false
    apply.fault := if s.mirror.replica = .disabled then s.apply.fault else true }

/-- A write of the frame in hand has been answered (R169, R170, R173). -/
def advanceApply (s : State) : State :=
  match s.rx.slots with
  | ⟨⟨_, seq, .block number lines⟩, _⟩ :: _ =>
    if s.apply.nextLine.val < 63 then
      presentBlockLine seq number lines (s.apply.nextLine + 1) { s with apply.nextLine := s.apply.nextLine + 1 }
    else applyEnd s
  | _ => applyEnd s

/-- The apply engine takes the answer of its write (R169, R170, R177, R178). -/
def applyAnswer (answer : MemAnswer) (s : State) : State :=
  let t := if answer = .error then applyFault s else s
  match s.apply.phase with
  | .writing => advanceApply t
  | .abandoning => releaseSlot { t with apply.phase := .idle }
  | .idle => s

/-- Memory answers the apply engine's transaction (R74, R76). -/
def applyWriteAnswer (answer : MemAnswer) (s : State) : State :=
  match s.mem.phase with
  | .busy t fate =>
    match t.owner with
    | .apply _ _ =>
      let s := { s with mem := s.mem.answered }
      if fate = .passed then applyAnswer answer s else s
    | _ => s
  | _ => s

/-! ### Abandoning a frame, and the replica's reports -/

/-- An abandoning event (R178). -/
def abandonFrame (s : State) : State :=
  match s.apply.phase with
  | .writing =>
    if s.mem.engineRequest.isSome then
      releaseSlot { s with mem := s.mem.withdrawEngine, apply.phase := .idle }
    else { s with apply.phase := .abandoning }
  | .idle | .abandoning => s

/-- The replica takes the report that the link left UP (R166). -/
def replicaLeftUp (s : State) : State :=
  match s.mirror.replica with
  | .applying => flushSlots (abandonFrame { s with mirror.replica := .listening })
  | .disabled | .listening => s

/-- The replica takes the report that the link reached UP (R165). -/
def replicaReachedUp (s : State) : State :=
  match s.mirror.replica with
  | .listening => { s with mirror.replica := .applying }
  | .disabled | .applying => s

/-- The session-start values of the acknowledgement state (R146, R163, R176). -/
def resetAckState (s : State) : State := { s with apply.ackCount := 0, apply.lastNaked := none }

/-- APPLY_TAKE_FRAME (R168). -/
def execApplyTakeFrame (s : State) : Host.Outcome State Fault Refusal := .next (unlessPorst applyTakeFrame s)

/-- APPLY_WRITE_ANSWER (R170). Memory settles a transaction through PORST as well (R76). -/
def execApplyWriteAnswer (beats : List MemAnswer) (s : State) : Host.Outcome State Fault Refusal :=
  .next (applyWriteAnswer (wholeAnswer beats) s)

end Sys2Proof.Machine
end

