-- ==== Sys2Proof/Machine/CopyEngine.lean ====
section
/-! DEFINITION. The copy engine (spec/05): starting a copy, its reads, its end, and abandonment. -/

namespace Sys2Proof.Machine

/-- The LINE READ of a copy record (R88). The address is block number × 1,024 + line index × 16. -/
def copyRead (r : CopyRecord) : MemTransaction where
  kind := .lineRead
  address := BitVec.ofNat 26 (r.block.toNat * 1024 + r.nextLine.val * 16)
  mask := 0xFFFF
  data := 0
  owner := .copy ⟨r.buffer, r.seq, r.nextLine⟩

/-- With a record and no read outstanding, the engine presents the read of the earliest copy (R88). Records
stand in the order of their seqs, so the earliest is the first. -/
def presentRead (s : State) : State :=
  match s.copy.outstanding, s.copy.records with
  | none, r :: _ =>
    { s with
      copy.outstanding := some ⟨r.buffer, r.seq, r.nextLine⟩
      mem := s.mem.requestEngine (copyRead r) }
  | _, _ => s

/-- The engine abandons its copies (R94, R95): no record, no pacing timer; a waiting request is withdrawn,
and a read at memory stays outstanding until its answer is dropped. The pacing timer is stopped in SYNCED too, as
R84 and R103 have it and R94 leaves open (log 33). -/
def abandonCopies (s : State) : State :=
  { s with
    copy.records := []
    copy.pacingTimer := none
    copy.outstanding := if s.mem.engineRequest.isSome then none else s.copy.outstanding
    mem := s.mem.withdrawEngine }

/-- The copy pacing timer's start at a start that reserves (R84): not started with an interval of 0. -/
def pacingStart (c : Settings) : Timer := if c.copyPacing.toNat = 0 then none else some c.copyPacing.toNat

/-- A start with its block and buffer in hand (R86, steps 2 to 4): reserve, record, pacing timer. -/
def reserveCopy (b : Block) (i : Fin 4) (s : State) : State :=
  { s with
    journal := s.journal.push (.block b i .reading)
    copy.buffers := s.copy.buffers.set i { s.copy.buffers[i] with owner := some s.journal.nextSeq }
    copy.records := s.copy.records ++ [⟨b, s.journal.nextSeq, i, 0, false⟩]
    copy.pacingTimer := pacingStart s.cfg }

/-- The start of a copy after take-next returned block `b` (R86): reserve in RESYNCING with room, else mark
the block again. -/
def startTaken (b : Block) (s : State) : State :=
  match s.copy.freeBuffer with
  | some i =>
    if s.mirror.state = .resyncing ∧ ¬ s.journal.full then presentRead (reserveCopy b i s) else markDirty b s
  | none => markDirty b s

/-- The taking of a pending start (R86), after which the engine examines its conditions (R83). A take-next
that finds nothing reports "empty" to the mirror controller (R39). -/
def takeCopyStart (s : State) : State :=
  if s.copy.pendingStart then
    let s := { s with copy.pendingStart := false }
    match s.dirty.takeNext with
    | none => examineCopy (checkSynced s)
    | some (b, m) => examineCopy (startTaken b { s with dirty := m })
  else s

/-- A copy that ended POISONED is reported (R92, R109). -/
def reportCopyFault (b : Block) (s : State) : State :=
  raise .copyFault (bump .copyFaultsOrPoisonedRx
    { s with copy.faultBlock := b, mirror.incomplete := true })

/-- The end of a copy at the answer of its line 63 (R91). -/
def endCopy (r : CopyRecord) (s : State) : State :=
  let s := { s with
    journal := s.journal.completeBlock r.seq r.buffer (if r.poisoned then .poisoned else .ready)
    copy.records := s.copy.records.filter (fun q => q.seq != r.seq) }
  if r.poisoned then reportCopyFault r.block s else s

/-- The answer of a read of a live copy (R89, R90): the line stored or the copy poisoned, and the copy
advanced or ended. -/
def takeLine (r : CopyRecord) (answer : MemAnswer) (data : Line) (s : State) : State :=
  let s := match answer with
    | .ok => { s with copy := s.copy.storeLine r.buffer r.nextLine data }
    | .error => s
  let r' := { r with poisoned := r.poisoned || answer == .error }
  if r.nextLine.val = 63 then endCopy r' s
  else
    { s with copy.records := s.copy.records.map fun q =>
        if q.seq = r.seq then { r' with nextLine := r.nextLine + 1 } else q }

/-- Whether an answer's identification is that of a copy record (R89). -/
def CopyRecord.matchesRead (id : ReadId) (r : CopyRecord) : Bool :=
  r.buffer == id.buffer && r.seq == id.seq && r.nextLine == id.line

/-- The copy engine takes an answer (R89, R93): of a live copy, or dropped; then it presents its next read. -/
def copyAnswer (id : ReadId) (answer : MemAnswer) (data : Line) (s : State) : State :=
  let s := { s with copy.outstanding := none }
  match s.copy.records.find? (fun r => r.matchesRead id) with
  | some r => presentRead (takeLine r answer data s)
  | none => presentRead s

/-- Memory answers the copy engine's transaction (R73, R76): the answer is passed, or dropped at the port. -/
def lineReadAnswer (answer : MemAnswer) (data : Line) (s : State) : State :=
  match s.mem.phase with
  | .busy t fate =>
    match t.owner with
    | .copy id =>
      let s := { s with mem := s.mem.answered }
      if fate = .passed then copyAnswer id answer data s else s
    | _ => s
  | _ => s

/-- The copy pacing timer expires and the engine examines its conditions (R84). -/
def pacingExpiry (s : State) : State :=
  if s.copy.pacingTimer.isSome then examineCopy { s with copy.pacingTimer := none } else s

/-- COPY_START (R86). -/
def execCopyStart (s : State) : Host.Outcome State Fault Refusal := .next (unlessPorst takeCopyStart s)

/-- COPY_PACING_TIMER_EXPIRY (R84). -/
def execCopyPacingTimerExpiry (s : State) : Host.Outcome State Fault Refusal := .next (unlessPorst pacingExpiry s)

/-- LINE_READ_ANSWER (R89). Memory settles a transaction through PORST as well (R76). -/
def execLineReadAnswer (beats : List MemAnswer) (data : Line) (s : State) : Host.Outcome State Fault Refusal :=
  .next (lineReadAnswer (wholeAnswer beats) data s)

end Sys2Proof.Machine
end

