-- ==== Sys2Proof/Machine/MirrorController.lean ====
section
/-! DEFINITION. The mirror controller's origin side (spec/06): mark reports, marks, drains, and the
link-loss transition; with the journal's spill and discard (R25, R27). -/

namespace Sys2Proof.Machine

/-- A pending drain fails (R116): DRAIN_FAILED once, and the drain is no longer pending. It fails too when its MARK has
been removed by an acknowledge-through whose report waits: the model's choice between R116's two orders (log 32). -/
def failDrain (s : State) : State :=
  match s.mirror.drain with
  | .clear => s
  | _ => raise .drainFailed { s with mirror.drain := .clear }

/-- The dirty map after a spill's marks, oldest entry first (R25, step 1). -/
def spillMarks (es : List Entry) (m : DirtyMap) : DirtyMap :=
  es.foldl (fun m e => match e.spillBlock with
    | some b => m.mark b
    | none => m) m

/-- A spill's report of drain marks not acknowledged (R25, step 2). -/
def reportSpilledDrains (es : List Entry) (s : State) : State :=
  if es.any (fun e => e.isDrainMark) then raise .drainFailed { s with mirror.drain := .clear } else s

/-- Spill (R25): blocks marked, drain marks reported, buffers freed, journal and holding buffer emptied. -/
def spillJournal (s : State) : State :=
  let es := s.journal.entries
  let s := reportSpilledDrains es { s with dirty := spillMarks es s.dirty }
  { s with
    copy := s.copy.freeBuffersOf es
    journal := s.journal.emptied
    tx.buffer := none }

/-- Discard (R27): buffers freed, journal and holding buffer emptied, nothing marked. -/
def discardJournal (s : State) : State :=
  { s with
    copy := s.copy.freeBuffersOf s.journal.entries
    journal := s.journal.emptied
    tx.buffer := none }

/-- The link-loss release of a held write into the dirty map (R56). -/
def releaseIntoMap (s : State) : State :=
  match s.sys.phase with
  | .held t => releaseHeld t (markWithin (blockOf t.address) s)
  | _ => s

/-- STOP's release of a held write: completed OK without capture (R57). -/
def releaseUncaptured (s : State) : State :=
  match s.sys.phase with
  | .held t => releaseHeld t s
  | _ => s

/-- Cancel a mark request that has not been appended (R103, R104). -/
def cancelMarkRequest (s : State) : State := { s with mirror.pendingMark := none }

/-- The link-loss transition (R103). From SYNCED it stops a pacing timer that still runs, as from RESYNCING: the model's
choice between R94 and R84 (log 33). -/
def linkLossTransition (s : State) : State :=
  let s := failDrain (cancelMarkRequest (abandonCopies (releaseIntoMap (spillJournal s))))
  { s with mirror.state := .tracking }

/-- The origin's mirror controller takes the report that the link left UP (R103). -/
def originLeftUp (s : State) : State :=
  match s.mirror.state with
  | .resyncing | .synced => linkLossTransition s
  | .disabled | .tracking => s

/-- The origin's mirror controller takes the report that the link reached UP (R100). -/
def originReachedUp (s : State) : State :=
  match s.mirror.state with
  | .tracking =>
    let s := if s.link.partnerFresh then seedDirty { s with mirror.incomplete := false } else s
    if 0 < s.dirty.count then examineCopy { s with mirror.state := .resyncing }
    else raise .synced { s with mirror.state := .synced }
  | .disabled | .resyncing | .synced => s

/-- The mirror controller takes a mark report (R101). -/
def takeMarkReport (r : MarkReport) (s : State) : State :=
  if s.mirror.state = .synced ∧ r.wasClear then raise .syncLost { s with mirror.state := .resyncing } else s

/-- The oldest waiting mark report is taken, and the copy engine examines its conditions (R33, R83, R101). -/
def dirtyMarkReport (s : State) : State :=
  match s.reports.marks with
  | r :: rest => examineCopy (takeMarkReport r { s with reports.marks := rest })
  | [] => s

/-- The consistent flag a MARK takes at its append (R112), by the mirror state as it stands: between a mark in the map
and its report (R33) the state is still SYNCED, and the flag is set though a block is dirty. The model's choice, since
R102 and R112 take the map to be empty in SYNCED (log 34). -/
def State.markConsistent (s : State) : Bool := s.mirror.state == .synced && !s.mirror.incomplete

/-- Append the pending mark request as soon as there is room (R112). For a drain the controller keeps the
entry's seq and consistent flag. -/
def appendPendingMark (s : State) : State :=
  match s.mirror.pendingMark with
  | some r =>
    if s.journal.full then s
    else
      { s with
        journal := s.journal.push (.mark r.number s.markConsistent r.drain)
        mirror.pendingMark := none
        mirror.drain := if r.drain then .appended ⟨s.journal.nextSeq, s.markConsistent⟩ else s.mirror.drain }
  | none => s

/-- An accepted mark request: the next mark number, the pending request, and its offer at once (R110, R111). -/
def acceptMark (drain : Bool) (s : State) : State :=
  appendPendingMark { s with
    mirror.lastIssued := s.mirror.lastIssued + 1
    mirror.pendingMark := some ⟨s.mirror.lastIssued + 1, drain⟩ }

/-- Whether the origin carries a stream in which marks are taken: RESYNCING or SYNCED. -/
def State.streaming (s : State) : Bool := s.mirror.state == .resyncing || s.mirror.state == .synced

/-- Whether a MARK request is accepted (R111). -/
def State.mayMark (s : State) : Bool := s.role == .origin && s.streaming && s.mirror.pendingMark.isNone

/-- Whether a drain is pending. -/
def State.drainPending (s : State) : Bool := s.mirror.drain != .clear

/-- Whether a DRAIN request is accepted (R114). -/
def State.mayDrain (s : State) : Bool :=
  s.role == .origin && s.streaming && s.link.state == .up && !s.drainPending && s.mirror.pendingMark.isNone

/-- An accepted DRAIN request (R114). -/
def acceptDrain (s : State) : State :=
  acceptMark true { s with mirror.drain := .requested, mirror.drainConsistent := false }

/-- Every DRAIN request taken in the ORIGIN role sets DRAINED low (R114). -/
def lowerDrained (s : State) : State := if s.role = .origin then { s with mirror.drained := false } else s

/-- A drain completes at the acknowledgement of its MARK (R115). -/
def completeDrain (d : DrainMark) (s : State) : State :=
  raise .drainDone { s with
    mirror.drained := true
    mirror.drainConsistent := d.consistent
    mirror.drain := .clear }

/-- One removed MARK is handed over (R113). -/
def takeRemovedMark (s : State) (m : RemovedMark) : State :=
  let s := raise .markAcked { s with mirror.lastAckedMark := m.number }
  match s.mirror.drain with
  | .appended d => if m.drain ∧ m.seq = d.seq then completeDrain d s else s
  | _ => s

/-- The removed MARKs of one acknowledge-through, oldest first (R22, R113). -/
def takeRemovedMarks (marks : List RemovedMark) (s : State) : State := marks.foldl takeRemovedMark s

/-- The pending mark's append and the check for SYNCED, in an order that R107 leaves open when both can act
(log 8). -/
def appendAndCheck (s : State) : State :=
  if s.mirror.pendingMark.isSome ∧ s.readyForSynced then
    let t := { s with choices := s.choices + 1 }
    if Sys2Proof.Config.checkBeforeAppend s.choices then appendPendingMark (checkSynced t)
    else checkSynced (appendPendingMark t)
  else checkSynced (appendPendingMark s)

/-- The oldest waiting acknowledge-through report is taken (R113, R112, R102). A report that has waited through a link
loss or a STOP still gives its MARKs' numbers and MARK_ACKED, and completes no drain that failed there: the model's
choice (log 29, log 32). -/
def mirrorAckReport (s : State) : State :=
  match s.reports.mirrorAcks with
  | marks :: rest => appendAndCheck (takeRemovedMarks marks { s with reports.mirrorAcks := rest })
  | [] => s

/-- A pin moves to `level`: whether that is an edge (R3). -/
def isEdge (held level : Bool) : Bool := level && !held

/-- An edge on the MARK pin is a mark request (R111). -/
def markPinRequest (s : State) : State :=
  match s.role with
  | .origin => if s.mayMark then acceptMark false s else raise .markRefused s
  | .replica => s

/-- An edge on the DRAIN pin is a drain request (R114). -/
def drainPinRequest (s : State) : State :=
  match s.role with
  | .origin =>
    let s := lowerDrained s
    if s.mayDrain then acceptDrain s else raise .drainFailed s
  | .replica => s

/-- The MARK pin moves (R111). -/
def markPin (level : Bool) (s : State) : State :=
  let t := { s with markPin := level }
  if isEdge s.markPin level then markPinRequest t else t

/-- The DRAIN pin moves (R114). -/
def drainPin (level : Bool) (s : State) : State :=
  let t := { s with drainPin := level }
  if isEdge s.drainPin level then drainPinRequest t else t

/-- DIRTY_MARK_REPORT (R101). -/
def execDirtyMarkReport (s : State) : Host.Outcome State Fault Refusal := .next (unlessPorst dirtyMarkReport s)

/-- MIRROR_ACK_REPORT (R113). -/
def execMirrorAckReport (s : State) : Host.Outcome State Fault Refusal := .next (unlessPorst mirrorAckReport s)

/-- MARK_PIN_EDGE (R111). -/
def execMarkPinEdge (level : Bool) (s : State) : Host.Outcome State Fault Refusal := .next (unlessPorst (markPin level) s)

/-- DRAIN_PIN_EDGE (R114). -/
def execDrainPinEdge (level : Bool) (s : State) : Host.Outcome State Fault Refusal := .next (unlessPorst (drainPin level) s)

end Sys2Proof.Machine
end

