-- ==== Sys2Proof/Machine/SystemPort.lean ====
section
/-! DEFINITION. The system port (spec/03): the master's transactions, the capture point, pacing and the held
write, fencing, and SRST. -/

namespace Sys2Proof.Machine

/-! ### Issue and fencing -/

/-- Whether the replica fences mirrored writes: LISTENING or APPLYING (R59). -/
def State.fencing (s : State) : Bool :=
  s.role == .replica && (s.mirror.replica == .listening || s.mirror.replica == .applying)

/-- A fenced write completes at once and is counted (R59). -/
def fenceWrite (t : Transaction) (s : State) : State :=
  raise .fence (bump .fenced (completeSystem t .fenced 0 s))

/-- The record of a request with the lookup that the replica takes at the issue of a write (R48). -/
def issuedRecord (r : MasterRequest) (s : State) : Transaction :=
  let t := recordOf r
  if s.role = .replica ∧ t.kind.isWrite then { t with lookup := some (s.mirrored t.address) } else t

/-- A transaction enters AT_MEMORY and requests the memory port (R42, R68). -/
def toMemory (t : Transaction) (s : State) : State :=
  { s with sys.phase := .atMemory t, mem := s.mem.requestSystem (memTransactionOf t) }

/-- The master issues a transaction (R41, R42, R59). The port takes one only in IDLE, and none while SRST is
asserted (R62). -/
def masterTransaction (r : MasterRequest) (s : State) : State :=
  if s.srst then s
  else
    match s.sys.phase with
    | .idle =>
      let t := issuedRecord r s
      if s.fencing && t.lookup == some true then fenceWrite t s else toMemory t s
    | _ => s

/-! ### Capture -/

/-- Whether a captured write may merge into the tail now (R14). -/
def State.mayMerge (s : State) (line : Addr) : Bool := s.journal.mergeEligible s.control.merge s.tx.buffer line

/-- Merge a captured write into the tail (R14). -/
def mergeWrite (t : Transaction) (s : State) : State :=
  { s with journal := s.journal.merge (captureMask t) (captureData t) }

/-- Append a captured write (R13, R50). -/
def appendWrite (t : Transaction) (s : State) : State :=
  { s with journal := s.journal.push (writeBody (lineAddress t.address) (captureMask t) (captureData t)) }

/-- Hold a captured write (R53). -/
def holdWrite (t : Transaction) (s : State) : State :=
  bump .stalls { s with sys := ⟨.held t, some s.cfg.stallLimit.toNat⟩ }

/-- Whether the journal stands below the high watermark. -/
def State.belowWatermark (s : State) : Bool := decide (s.journal.occupancy < s.cfg.highWatermark.toNat)

/-- Mark a captured write's block and complete it (R50, cases 1 and 4). The mark may let the copy engine
decide a start (R83). -/
def markWrite (t : Transaction) (s : State) : State :=
  completeSystem t .ok 0 (examineCopy (markDirty (blockOf t.address) s))

/-- The outcome at the capture point (R50): the first case that applies. -/
def capture (t : Transaction) (s : State) : State :=
  if s.mirror.state = .tracking then markWrite t s
  else if s.mayMerge (lineAddress t.address) then completeSystem t .ok 0 (mergeWrite t s)
  else
    match s.control.pace with
    | .stall => if s.belowWatermark then completeSystem t .ok 0 (appendWrite t s) else holdWrite t s
    | .track => if s.journal.full then markWrite t s else completeSystem t .ok 0 (appendWrite t s)

/-- A write of the origin answered OK: looked up, and captured when mirrored outside DISABLED (R48, R49). -/
def originWriteOk (t : Transaction) (s : State) : State :=
  let t := { t with lookup := some (s.mirrored t.address) }
  if t.lookup = some true ∧ s.mirror.state ≠ .disabled then capture t s else completeSystem t .ok 0 s

/-- The system port takes the answer of its transaction (R42, R43, R72). -/
def systemAnswer (t : Transaction) (answer : MemAnswer) (data : Line) (s : State) : State :=
  match answer with
  | .error => completeSystem t .memError 0 s
  | .ok =>
    if t.kind.isWrite then
      match s.role with
      | .origin => originWriteOk t s
      | .replica => completeSystem t .ok 0 s
    else completeSystem t .ok (readData t.kind data) s

/-- The answer of a transaction that SRST abandoned is settled (R63). -/
def settleAbandoned (m : MemTransaction) (answer : MemAnswer) (s : State) : State :=
  if m.kind.isWrite ∧ answer = .ok ∧ s.role = .origin ∧ s.mirrored m.address ∧ s.mirror.state ≠ .disabled then
    examineCopy (markDirty (blockOf m.address) s)
  else s

/-- Memory answers a system transaction (R72, R76). The port leaves BUSY after the answer is taken. -/
def systemMemoryAnswer (answer : MemAnswer) (data : Line) (s : State) : State :=
  match s.mem.phase with
  | .busy m fate =>
    match m.owner, fate with
    | .system, .passed =>
      match s.sys.phase with
      | .atMemory t => systemAnswer t answer data { s with mem := s.mem.answered }
      | _ => { s with mem := s.mem.answered }
    | .system, .abandonedBySrst => settleAbandoned m answer { s with mem := s.mem.answered }
    | .system, .dropped => { s with mem := s.mem.answered }
    | _, _ => s
  | _ => s

/-- The master takes the completion (R42). -/
def completionTaken (s : State) : State :=
  match s.sys.phase with
  | .complete _ _ _ => { s with sys.phase := .idle }
  | _ => s

/-! ### Releases of a held write -/

/-- The stall timer of a held write expires (R55). -/
def stallExpiry (s : State) : State :=
  match s.sys.phase with
  | .held t =>
    if s.sys.stallTimer.isSome then
      releaseHeld t (examineCopy (raise .stallExpired (bump .stallExpiries (markDirty (blockOf t.address) s))))
    else s
  | _ => s

/-- A held write is released into the journal, merged or appended (R54). -/
def releaseIntoJournal (t : Transaction) (s : State) : State :=
  releaseHeld t (if s.mayMerge (lineAddress t.address) then mergeWrite t s else appendWrite t s)

/-- Capture takes an acknowledge-through report (R54): with the high watermark then in force, and by R54's comparison
alone. CONTROL.pace is not read here, so a write held at or above the watermark stays held under TRACK too: the model's
reading of the check that R52 and R185 apply a new policy at (log 31). -/
def heldWriteAckReport (s : State) : State :=
  match s.reports.captureAcks with
  | 0 => s
  | n + 1 =>
    let s := { s with reports.captureAcks := n }
    match s.sys.phase with
    | .held t => if s.belowWatermark then releaseIntoJournal t s else s
    | _ => s

/-! ### SRST -/

/-- The system port at the assertion of SRST, by phase (R57, R62). -/
def settleSrst (s : State) : State :=
  match s.sys.phase with
  | .idle => s
  | .atMemory _ =>
    if s.mem.systemRequest.isSome then { s with mem := s.mem.withdrawSystem } else { s with mem := s.mem.abandonSystem }
  | .held t => markDirty (blockOf t.address) s
  | .complete _ _ _ => s

/-- SRST is asserted (R62): the port settles its transaction, is IDLE, and takes none until the deassertion. -/
def srstAssert (s : State) : State :=
  if s.srst then s else { settleSrst s with srst := true, sys := ⟨.idle, none⟩ }

/-- SRST is deasserted (R62). -/
def srstDeassert (s : State) : State := { s with srst := false }

/-- MASTER_TRANSACTION (R41). -/
def execMasterTransaction (r : MasterRequest) (s : State) : Host.Outcome State Fault Refusal :=
  .next (unlessPorst (masterTransaction r) s)

/-- SYSTEM_MEMORY_ANSWER (R72). Memory settles a transaction through PORST as well (R76). -/
def execSystemMemoryAnswer (beats : List MemAnswer) (data : Line) (s : State) : Host.Outcome State Fault Refusal :=
  .next (systemMemoryAnswer (wholeAnswer beats) data s)

/-- MEMORY_READY (R69). While PORST is asserted no request waits, so nothing is granted (R76). -/
def execMemoryReady (s : State) : Host.Outcome State Fault Refusal :=
  .next { s with mem := s.mem.ready s.control.arb }

/-- COMPLETION_TAKEN (R42). -/
def execCompletionTaken (s : State) : Host.Outcome State Fault Refusal := .next (unlessPorst completionTaken s)

/-- STALL_TIMER_EXPIRY (R55). -/
def execStallTimerExpiry (s : State) : Host.Outcome State Fault Refusal := .next (unlessPorst stallExpiry s)

/-- HELD_WRITE_ACK_REPORT (R54). -/
def execHeldWriteAckReport (s : State) : Host.Outcome State Fault Refusal := .next (unlessPorst heldWriteAckReport s)

/-- SRST_ASSERT (R62). The pin's level is followed through PORST too, where the port is IDLE. -/
def execSrstAssert (s : State) : Host.Outcome State Fault Refusal := .next (srstAssert s)

/-- SRST_DEASSERT (R62). -/
def execSrstDeassert (s : State) : Host.Outcome State Fault Refusal := .next (srstDeassert s)

end Sys2Proof.Machine
end

