-- ==== Sys2Proof/Machine/Session.lean ====
section
/-! DEFINITION. The session controller (spec/08): entering and leaving link states, the acknowledgement
operations, and the link's timers. -/

namespace Sys2Proof.Machine

/-! ### Entering link states -/

/-- A HELLO with the current session and the next-sequence counter (R143). -/
def offerHello (s : State) : State := offerControl s.journal.nextSeq .hello s

/-- The keepalive interval in force (R142). -/
def State.keepalive (s : State) : Timer := some s.cfg.keepalive.toNat

/-- The origin enters CONNECTING (R143): a new session number, a HELLO, the timer. -/
def enterConnecting (s : State) : State :=
  offerHello { s with
    link.state := .connecting
    link.session := nextSession s.link.session
    link.helloTimer := s.keepalive }

/-- The link enters DOWN (R141): the origin starts its holdoff; the replica passes to CONNECTING at once. -/
def enterDown (s : State) : State :=
  match s.role with
  | .origin => { s with link.state := .down, link.helloTimer := s.keepalive }
  | .replica => { s with link.state := .connecting }

/-- LINK_DOWNS counts and LINK_DOWN is raised (R141). -/
def countLinkDown (s : State) : State := raise .linkDown (bump .linkDowns s)

/-- Every timer of the session controller is stopped, and the consecutive-timeout count is 0 (R158, R160). -/
def stopSession (s : State) : State :=
  { s with
    link.helloTimer := none
    link.silenceTimer := none
    link.ackTimer := none
    link.timeouts := 0 }

/-- The replica's current session is 0 outside UP (R139). -/
def clearReplicaSession (s : State) : State := if s.role = .replica then { s with link.session := 0 } else s

/-- The link enters OFF (R128, R129, R135, R137, R166): transmitter emptied and its line at rest, receiver hunting,
slots flushed; the break detector counts anew when the link leaves OFF. -/
def enterOff (s : State) : State :=
  flushSlots (transmitterIntoOff (clearReplicaSession (stopSession { s with
    link.state := .off
    rx := { s.rx with phase := .hunting, runReported := false } })))

/-! ### Leaving UP -/

/-- Where the link goes when it leaves UP (R156). -/
inductive LeaveTo where
  | down
  | connecting
  | off
  deriving DecidableEq, Repr

/-- The state the link takes on leaving UP (R156, R158, R160). A replica enters CONNECTING without a HELLO. -/
def enterAfterUp (dest : LeaveTo) (s : State) : State :=
  match dest with
  | .down => enterDown s
  | .off => enterOff s
  | .connecting =>
    match s.role with
    | .origin => enterConnecting s
    | .replica => { s with link.state := .connecting }

/-- The mirror controller of either role takes the report that the link left UP (R103, R166). -/
def reportLeftUp (s : State) : State :=
  match s.role with
  | .origin => originLeftUp s
  | .replica => replicaLeftUp s

/-- The transmitter's part in leaving UP: slot and buffer emptied, a break if one is requested (R127, R128). -/
def transmitterLeavesUp (withBreak : Bool) (s : State) : State :=
  if withBreak then requestBreak s else emptyTransmitter s

/-- The link leaves UP, in one step (R156, R158, R160): `counted` for LINK_DOWNS and LINK_DOWN. -/
def leaveUp (dest : LeaveTo) (withBreak counted : Bool) (s : State) : State :=
  let s := if counted then countLinkDown s else s
  let s := transmitterLeavesUp withBreak (clearReplicaSession (stopSession s))
  reportLeftUp (enterAfterUp dest s)

/-! ### Entering UP -/

/-- The silence interval in force (R149). -/
def State.silence (s : State) : Timer := some s.cfg.silence.toNat

/-- The control slot without a HELLO that has not begun to leave the shifter (R145). -/
def dropHello (slot : Option Frame) : Option Frame :=
  match slot with
  | some ⟨_, _, .hello⟩ => none
  | other => other

/-- The origin enters UP (R145), and the mirror controller takes its report in the same step (R100). -/
def originEnterUp (fresh : Bool) (s : State) : State :=
  originReachedUp (raise .linkUp { s with
    tx.slot := dropHello s.tx.slot
    link := { s.link with
      state := .up
      helloTimer := s.keepalive
      silenceTimer := s.silence
      ackTimer := none
      timeouts := 0
      partnerFresh := fresh } })

/-! ### Valid frames -/

/-- A valid frame of the current session restarts the silence timer in UP (R149). -/
def noteValidFrame (session : SessionNo) (s : State) : State :=
  if s.link.state = .up ∧ session = s.link.session then { s with link.silenceTimer := s.silence } else s

/-- The reports of an acknowledge-through that removed entries (R22), with the ack timer (R151) and the
consecutive-timeout count (R154). -/
def reportAcknowledged (removed : List Entry) (s : State) : State :=
  { s with
    copy := s.copy.freeBuffersOf removed
    reports.mirrorAcks := s.reports.mirrorAcks ++ [removed.filterMap (fun e => e.removedMark)]
    reports.captureAcks := s.reports.captureAcks + 1
    link.ackTimer := if 0 < s.journal.inFlight then some s.cfg.ackTimeout.toNat else none
    link.timeouts := 0 }

/-- Acknowledge-through `n` (R21, R22). The copy engine examines its conditions at the report (R83). -/
def acknowledgeThrough (n : Seq) (s : State) : State :=
  match s.journal.removedBy n with
  | [] => s
  | e :: es => examineCopy (reportAcknowledged (e :: es) { s with journal := s.journal.acknowledged n })

/-- Rewind to `target` (R23): a send point that moves back empties the holding buffer, and an in-flight count
of 0 stops the ack timer (R151). -/
def rewindTo (target : Seq) (s : State) : State :=
  let point := s.journal.rewindPoint target
  let s := if point < s.journal.sendPoint then emptyBuffer { s with journal.sendPoint := point } else s
  if s.journal.inFlight = 0 then { s with link.ackTimer := none } else s

/-- The origin's mirror controller is told of a replica fault (R109). -/
def reportReplicaFault (fault : Bool) (s : State) : State :=
  if fault then raise .replicaFault { s with mirror.incomplete := true } else s

/-- Whether a frame belongs to the origin's session in UP, so that its ACK or NAK is judged (R152, R153). -/
def State.ownsFrame (s : State) (f : Frame) : Bool := s.link.state == .up && f.session == s.link.session

/-- The origin takes an ACK (R152): stale outside the session, out of range, or an acknowledge-through. -/
def takeAck (f : Frame) (fault : Bool) (s : State) : State :=
  if s.ownsFrame f then
    let s := reportReplicaFault fault (noteValidFrame f.session s)
    if atOrBefore (s.journal.headSeq - 1) f.seq && atOrBefore f.seq s.journal.sentLimit then acknowledgeThrough f.seq s
    else bump .protocol s
  else bump .rxStale s

/-- The origin takes a NAK (R153): acknowledge-through e − 1, then rewind to e. -/
def takeNak (f : Frame) (fault : Bool) (s : State) : State :=
  if s.ownsFrame f then
    let s := reportReplicaFault fault (noteValidFrame f.session s)
    if atOrBefore s.journal.headSeq f.seq && atOrBefore f.seq (s.journal.sentLimit + 1) then
      rewindTo f.seq (acknowledgeThrough (f.seq - 1) s)
    else bump .protocol s
  else bump .rxStale s

/-- The origin takes a HELLO_ACK (R144). -/
def takeHelloAck (f : Frame) (fresh : Bool) (s : State) : State :=
  match s.link.state with
  | .connecting =>
    if f.session = s.link.session ∧ f.seq = s.journal.nextSeq then originEnterUp fresh s else bump .rxStale s
  | .up => if f.session = s.link.session then noteValidFrame f.session s else bump .rxStale s
  | .off | .down => bump .rxStale s

/-- The replica answers a HELLO (R146). -/
def answerHello (f : Frame) (s : State) : State :=
  let s := resetAckState (flushSlots (abandonFrame { s with link.session := f.session, apply.expected := f.seq }))
  let s := offerControl f.seq (.helloAck s.apply.fresh) s
  let s := { s with link.silenceTimer := s.silence }
  if s.link.state = .connecting then replicaReachedUp (raise .linkUp { s with link.state := .up }) else s

/-- Whether the replica answers HELLOs: link CONNECTING or UP, and LISTENING or APPLYING (R146). -/
def State.answersHello (s : State) : Bool :=
  (s.link.state == .connecting || s.link.state == .up) && s.mirror.replica != .disabled

/-- A HELLO of session 0 where none is answered: R146 says both that it counts and that it does not (log 9). -/
def unansweredSessionZero (s : State) : State :=
  let t := { s with choices := s.choices + 1 }
  if Sys2Proof.Config.countsSessionZeroInDisabled s.choices then bump .protocol t else t

/-- The replica takes a HELLO (R146). -/
def takeHello (f : Frame) (s : State) : State :=
  if s.answersHello then
    if f.session = 0 then bump .protocol s else answerHello f s
  else if f.session = 0 then unansweredSessionZero s
  else s

/-! ### Timers -/

/-- The hello/keepalive timer expires (R142): holdoff over, a HELLO again, or a PROBE. -/
def helloKeepaliveExpiry (s : State) : State :=
  if s.link.helloTimer.isSome then
    let s := { s with link.helloTimer := none }
    match s.link.state with
    | .down => enterConnecting s
    | .connecting => offerHello { s with link.helloTimer := s.keepalive }
    | .up => offerControl 0 .probe s
    | .off => s
  else s

/-- The silence timer expires in UP (R149): DOWN without a break. -/
def silenceExpiry (s : State) : State :=
  if s.link.silenceTimer.isSome ∧ s.link.state = .up then leaveUp .down false true s else s

/-- The rewind and the counts of an ack-timer expiry (R154). -/
def ackTimeoutStep (s : State) : State :=
  let s := bump .ackTimeouts (rewindTo s.journal.headSeq { s with link.ackTimer := none })
  { s with link.timeouts := s.link.timeouts + 1 }

/-- The ack timer expires in UP (R154): at the retry limit the link leaves UP with a break. -/
def ackExpiry (s : State) : State :=
  if s.link.ackTimer.isSome ∧ s.link.state = .up then
    let s := ackTimeoutStep s
    if s.cfg.retryLimit.toNat ≤ s.link.timeouts then leaveUp .down true true s else s
  else s

/-- The session controller takes a break report (R156): in UP the link leaves UP without an answering break. -/
def takeBreakReport (s : State) : State := if s.link.state = .up then leaveUp .down false true s else s

/-- A START or STOP of the origin with the link UP opens a new session (R159). -/
def renewSession (s : State) : State := if s.link.state = .up then leaveUp .connecting false false s else s

/-- LINK_RESET accepted (R157). -/
def resetLink (s : State) : State :=
  if s.link.state = .up then leaveUp .down true true s
  else enterDown (requestBreak (stopSession (countLinkDown s)))

/-- The link enable is set (R137, R141): an OFF link goes to DOWN. -/
def setLinkEnable (s : State) : State :=
  let t := { s with control.linkEnable := true }
  if s.link.state = .off then enterDown t else t

/-- The link enable is cleared (R137): to OFF from whatever state. -/
def clearLinkEnable (s : State) : State :=
  let t := { s with control.linkEnable := false }
  match s.link.state with
  | .up => leaveUp .off false true t
  | .down | .connecting => enterOff t
  | .off => t

/-- HELLO_KEEPALIVE_TIMER_EXPIRY (R142). -/
def execHelloKeepaliveTimerExpiry (s : State) : Host.Outcome State Fault Refusal :=
  .next (unlessPorst helloKeepaliveExpiry s)

/-- SILENCE_TIMER_EXPIRY (R149). -/
def execSilenceTimerExpiry (s : State) : Host.Outcome State Fault Refusal := .next (unlessPorst silenceExpiry s)

/-- ACK_TIMER_EXPIRY (R154). -/
def execAckTimerExpiry (s : State) : Host.Outcome State Fault Refusal := .next (unlessPorst ackExpiry s)

end Sys2Proof.Machine
end

