-- ==== Sys2Proof/Machine/Receiver.lean ====
section
/-! DEFINITION. The link receiver (R129 to R135): alignment, discarded frames, where a valid frame goes, and the
break detector. -/

namespace Sys2Proof.Machine

/-- Whether the receiver takes characters: aligned, with the link not OFF (R129). -/
def State.receiving (s : State) : Bool := s.link.state != .off && s.rx.phase != .hunting

/-- A framing error met while a frame is being received: counted, and the receiver hunts (R131). -/
def framingToHunting (s : State) : State := rxDiscard .rxFraming { s with rx.phase := .hunting }

/-- Two character times at mark: HUNTING to BETWEEN with the link not OFF (R129). A run of space is over (R135). -/
def receiverAlign (s : State) : State :=
  if s.link.state ≠ .off ∧ s.rx.phase = .hunting then
    { s with rx := { s.rx with phase := .between, runReported := false } }
  else s

/-- A bad stop bit, an unaccepted kind or a length out of range (R131). What is no framing error for this
role ends nothing. A HUNTING receiver discards no frame; a bad stop bit of a character there still shows that RXD was
at mark before it (R119), so the run of space it begins is a new one (R135, log 25). -/
def rxFraming (c : FramingCheck) (s : State) : State :=
  if s.receiving && isFramingError s.role c then framingToHunting s
  else if s.rx.phase = .hunting ∧ c = .badStopBit then { s with rx.runReported := false }
  else s

/-- Truncation (R131, condition 2). -/
def rxTruncation (s : State) : State := if s.receiving then framingToHunting s else s

/-- A PROBE, WRITE, BLOCK or MARK at the replica takes a free slot, which holds its bytes as received, or is an
overrun (R132, R133). -/
def placeFrame (f : Frame) (bytes : List Byte) (s : State) : State :=
  let s := noteValidFrame f.session s
  if s.rx.slots.length < Sys2Proof.Config.slotCount then { s with rx.slots := s.rx.slots ++ [⟨f, bytes⟩] }
  else rxDiscard .rxOverrun s

/-- The receiver at the end of a frame's bytes (R131, R132): the checks in their order, then the disposal of
a valid frame by `dispose`; the receiver stays aligned but after a framing error met inside the frame. -/
def receiveBytes (dispose : Frame → State → State) (bytes : List Byte) (s : State) : State :=
  if s.receiving then
    match judgeBytes s.role bytes with
    | .framing => framingToHunting s
    | .crcMismatch => rxDiscard .rxCrc { s with rx.phase := .between }
    | .fieldRange => rxDiscard .rxFraming { s with rx.phase := .between }
    | .valid f => dispose f { s with rx.phase := .between }
  else s

/-- Disposal of a data frame or a PROBE at the replica (R133), received as `bytes`. -/
def disposeData (bytes : List Byte) (f : Frame) (s : State) : State :=
  match s.role, f.body with
  | .replica, .probe | .replica, .write .. | .replica, .block .. | .replica, .poisoned _ | .replica, .mark .. =>
    placeFrame f bytes s
  | _, _ => s

/-- Disposal of a HELLO (R133, R146). -/
def disposeHello (f : Frame) (s : State) : State :=
  match f.body with
  | .hello => takeHello f s
  | _ => s

/-- Disposal of a HELLO_ACK (R133, R144). -/
def disposeHelloAck (f : Frame) (s : State) : State :=
  match f.body with
  | .helloAck fresh => takeHelloAck f fresh s
  | _ => s

/-- Disposal of an ACK (R133, R152). -/
def disposeAck (f : Frame) (s : State) : State :=
  match f.body with
  | .ack fault => takeAck f fault s
  | _ => s

/-- Disposal of a NAK (R133, R153). -/
def disposeNak (f : Frame) (s : State) : State :=
  match f.body with
  | .nak fault => takeNak f fault s
  | _ => s

/-! ### The break detector -/

/-- A run of space that reaches an aligned receiver has made a bad stop bit: the frame it fell in, or the character
it was taken for, is discarded as RX_FRAMING, and the receiver hunts (R131, R135). -/
def breakStopBit (s : State) : State := if s.receiving then framingToHunting s else s

/-- RXD has been at space for 64 bit times (R135): the bad stop bit first, then the report of the break. In OFF the
detector reports nothing, and one unbroken run of space gives one report. -/
def breakDetected (s : State) : State :=
  if s.link.state = .off ∨ s.rx.runReported = true then s
  else
    let t := breakStopBit s
    takeBreakReport { t with rx.runReported := true }

/-- RECEIVER_ALIGN (R129). -/
def execReceiverAlign (s : State) : Host.Outcome State Fault Refusal := .next (unlessPorst receiverAlign s)

/-- RX_FRAMING (R131). -/
def execRxFraming (c : FramingCheck) (s : State) : Host.Outcome State Fault Refusal := .next (unlessPorst (rxFraming c) s)

/-- RX_TRUNCATION (R131). -/
def execRxTruncation (s : State) : Host.Outcome State Fault Refusal := .next (unlessPorst rxTruncation s)

/-- BREAK_DETECTED (R135). -/
def execBreakDetected (s : State) : Host.Outcome State Fault Refusal := .next (unlessPorst breakDetected s)

/-- DATA_FRAME_RECEIVED (R133). -/
def execDataFrameReceived (bytes : List Byte) (s : State) : Host.Outcome State Fault Refusal :=
  .next (unlessPorst (receiveBytes (disposeData bytes) bytes) s)

/-- HELLO_RECEIVED (R146). -/
def execHelloReceived (bytes : List Byte) (s : State) : Host.Outcome State Fault Refusal :=
  .next (unlessPorst (receiveBytes disposeHello bytes) s)

/-- HELLO_ACK_RECEIVED (R144). -/
def execHelloAckReceived (bytes : List Byte) (s : State) : Host.Outcome State Fault Refusal :=
  .next (unlessPorst (receiveBytes disposeHelloAck bytes) s)

/-- ACK_RECEIVED (R152). -/
def execAckReceived (bytes : List Byte) (s : State) : Host.Outcome State Fault Refusal :=
  .next (unlessPorst (receiveBytes disposeAck bytes) s)

/-- NAK_RECEIVED (R153). -/
def execNakReceived (bytes : List Byte) (s : State) : Host.Outcome State Fault Refusal :=
  .next (unlessPorst (receiveBytes disposeNak bytes) s)

end Sys2Proof.Machine
end

