-- ==== Sys2Proof/Machine/Resets.lean ====
section
/-! DEFINITION. PORST and SOFT_RESET (R44, R77, R188, R193). -/

namespace Sys2Proof.Machine

/-- The system port through SOFT_RESET (R44): it ends its transaction with the master; a held write is
completed OK without capture. -/
def softResetPort (p : SystemPort) : SystemPort :=
  match p.phase with
  | .held t => ⟨.complete t .ok 0, none⟩
  | other => ⟨other, none⟩

/-- SOFT_RESET is taken (R188): every block takes its values after PORST, but for the role, the transaction of
the system port, and what the memory port keeps. The pins are sampled at its end (R111). The service port then waits
for SPSEL to be asserted anew: taken at the end of the RESPONSE byte, with SPSEL asserted, the port is in DONE, where
clocks change nothing and SPDO carries 0 (R181); taken at the deassertion, it is deselected. -/
def takeSoftReset (pins : RequestPins) (selected : Bool) (s : State) : State :=
  if s.sp.resetPending then
    { State.reset with
      role := s.role
      porst := s.porst
      srst := s.srst
      markPin := pins.mark
      drainPin := pins.drain
      sp.phase := if selected then .done else .deselected
      sys := softResetPort s.sys
      mem := s.mem.softReset
      choices := s.choices
      pending := s.pending }
  else s

/-- PORST is asserted (R193): every block holds its values for PORST; a memory transaction already issued is
kept and its answer dropped (R76). The role is sampled at the deassertion. -/
def porstAssert (s : State) : State :=
  { State.reset with
    role := s.role
    porst := true
    srst := s.srst
    markPin := s.markPin
    drainPin := s.drainPin
    mem := s.mem.powerReset
    choices := s.choices
    pending := s.pending }

/-- PORST is deasserted (R193): ROLE is sampled, and the levels of the MARK and DRAIN pins (R111). A transaction of
the service port whose SPSEL is already asserted is ignored. -/
def porstDeassert (roleHigh : Bool) (pins : RequestPins) (selected : Bool) (s : State) : State :=
  if s.porst then
    { s with
      porst := false
      role := if roleHigh then .origin else .replica
      markPin := pins.mark
      drainPin := pins.drain
      sp.phase := if selected then .ignored else s.sp.phase }
  else s

/-- SOFT_RESET_TAKEN (R188). -/
def execSoftResetTaken (pins : RequestPins) (selected : Bool) (s : State) : Host.Outcome State Fault Refusal :=
  .next (unlessPorst (takeSoftReset pins selected) s)

/-- PORST_ASSERT (R193). -/
def execPorstAssert (s : State) : Host.Outcome State Fault Refusal := .next (porstAssert s)

/-- PORST_DEASSERT (R193). -/
def execPorstDeassert (roleHigh : Bool) (pins : RequestPins) (selected : Bool) (s : State) :
    Host.Outcome State Fault Refusal :=
  .next (porstDeassert roleHigh pins selected s)

end Sys2Proof.Machine
end

