-- ==== Sys2Proof/Machine/ServicePort.lean ====
section
/-! DEFINITION. The service port (spec/10): commands, register writes and reads, responses, and the transaction
that carries them byte by byte. -/

namespace Sys2Proof.Machine

/-! ### Responses -/

/-- A WRITE is judged at the end of its fourth DATA byte: SPDO carried 0, and the response follows (R181, R183). -/
def respond (r : Response) (s : State) : State :=
  { s with sp := { s.sp with phase := .response, dataOut := 0, response := some r } }

/-- The response byte (R181). -/
def Response.code : Response → Byte
  | .accepted => 0x01
  | .refused => 0x02
  | .noRegister => 0x03
  | .busy => 0x04

/-- The byte that SPDO carries in the present byte time (R181), none while the port leaves SPDO undriven: 0 during
OPCODE, INDEX and DONE, the DATA bytes least significant first, the response. An ignored transaction: log 3. -/
def ServicePort.spdo (p : ServicePort) : Option Byte :=
  match p.phase with
  | .deselected | .ignored => none
  | .opcode | .index _ | .done => some 0
  | .data _ _ received => some (p.dataOut.extractLsb' (8 * received.length) 8)
  | .response => some ((p.response.map Response.code).getD 0)

/-- ACCEPTED with an effect, or REFUSED with none (R183, R186). -/
def acceptIf (ok : Bool) (effect : State → State) (s : State) : State :=
  if ok then respond .accepted (effect s) else respond .refused s

/-! ### Commands of the origin -/

/-- START in the ORIGIN role (R99). -/
def startOrigin (s : State) : State :=
  let s := seedDirty s
  renewSession (examineCopy { s with mirror.incomplete := false, mirror.state := .tracking })

/-- The moves of STOP inside the part, before the link (R104, steps 1 to 7). -/
def stopMirroring (s : State) : State :=
  let s := discardJournal s
  let s := { s with dirty := DirtyMap.empty }
  let s := abandonCopies s
  let s := releaseUncaptured { s with copy.paused := false }
  let s := failDrain (cancelMarkRequest s)
  { s with mirror.drained := false, mirror.state := .disabled }

/-- STOP in the ORIGIN role (R104). -/
def stopOrigin (s : State) : State := renewSession (stopMirroring s)

/-- RESEED by state (R105). -/
def reseed (s : State) : State :=
  let s := seedDirty { s with mirror.incomplete := false }
  match s.mirror.state with
  | .synced => if 0 < s.dirty.count then examineCopy { s with mirror.state := .resyncing } else s
  | .resyncing => examineCopy (checkSynced s)
  | .tracking | .disabled => s

/-- Whether the origin is in a state other than DISABLED (R105, R106, R186). -/
def State.originActive (s : State) : Bool := s.role == .origin && s.mirror.state != .disabled

/-! ### Commands of the replica -/

/-- A mirrored write that waits for its grant at a replica START is fenced, by a new lookup (R60, R163). -/
def fenceWaiting (s : State) : State :=
  match s.sys.phase with
  | .atMemory t =>
    if s.mem.systemRequest.isSome ∧ t.kind.isWrite then
      let t := { t with lookup := some (s.mirrored t.address) }
      if t.lookup = some true then fenceWrite t { s with mem := s.mem.withdrawSystem }
      else { s with sys.phase := .atMemory t }
    else s
  | _ => s

/-- START in the REPLICA role (R163). -/
def startReplica (s : State) : State :=
  fenceWaiting (resetAckState { s with
    mirror.replica := .listening
    apply.fresh := true
    apply.coherent := false
    apply.fault := false })

/-- STOP in the REPLICA role (R164). -/
def stopReplica (s : State) : State :=
  let s := flushSlots (abandonFrame { s with mirror.replica := .disabled, apply.fault := false })
  if s.link.state = .up then leaveUp .connecting false false s else s

/-! ### The commands -/

/-- Whether the part's role state is DISABLED (R47, R186). -/
def State.roleDisabled (s : State) : Bool :=
  match s.role with
  | .origin => s.mirror.state == .disabled
  | .replica => s.mirror.replica == .disabled

/-- START (R99, R163). -/
def commandStart (s : State) : State :=
  acceptIf s.roleDisabled (fun s => match s.role with
    | .origin => startOrigin s
    | .replica => startReplica s) s

/-- STOP (R104, R164). -/
def commandStop (s : State) : State :=
  acceptIf (!s.roleDisabled) (fun s => match s.role with
    | .origin => stopOrigin s
    | .replica => stopReplica s) s

/-- RESEED (R105). -/
def commandReseed (s : State) : State := acceptIf s.originActive reseed s

/-- PAUSE (R85, R106). -/
def commandPause (s : State) : State := acceptIf s.originActive (fun s => { s with copy.paused := true }) s

/-- RESYNC (R85, R106), at which the copy engine examines its conditions (R83). -/
def commandResync (s : State) : State :=
  acceptIf s.originActive (fun s => examineCopy { s with copy.paused := false }) s

/-- MARK (R111). -/
def commandMark (s : State) : State := acceptIf s.mayMark (acceptMark false) s

/-- DRAIN (R114): DRAINED goes low at every request the origin takes; BUSY while a drain is pending. -/
def commandDrain (s : State) : State :=
  let t := lowerDrained s
  if s.mayDrain then respond .accepted (acceptDrain t)
  else if s.role = .origin ∧ s.drainPending then respond .busy t
  else respond .refused t

/-- LINK_RESET (R157). -/
def commandLinkReset (s : State) : State :=
  acceptIf (s.link.state == .up || s.link.state == .connecting) resetLink s

/-- CLEAR_COUNTERS (R189). -/
def commandClearCounters (s : State) : State :=
  respond .accepted { s with counters := Vector.replicate 13 0 }

/-- SOFT_RESET (R188): answered now, taken at the end of the transaction. -/
def commandSoftReset (s : State) : State :=
  let s := respond .accepted s
  { s with sp.resetPending := true }

/-- A WRITE to COMMAND (R186). The commands of the ORIGIN column are refused in the REPLICA role, and so is
any other code. -/
def writeCommand (code : Byte) (s : State) : State :=
  if code = 1 then commandStart s
  else if code = 2 then commandStop s
  else if code = 3 then commandReseed s
  else if code = 4 then commandPause s
  else if code = 5 then commandResync s
  else if code = 6 then commandMark s
  else if code = 7 then commandDrain s
  else if code = 8 then commandLinkReset s
  else if code = 9 then commandClearCounters s
  else if code = 10 then commandSoftReset s
  else respond .refused s

/-! ### Register writes -/

/-- CONTROL.merge (R185). -/
def setMerge (v : Bool) (s : State) : State := { s with control.merge := v }

/-- CONTROL.arb (R71). -/
def setArb (v : ArbPolicy) (s : State) : State := { s with control.arb := v }

/-- CONTROL.pace (R52). -/
def setPace (v : PacePolicy) (s : State) : State := { s with control.pace := v }

/-- CONTROL.link enable (R137). -/
def setEnable (v : Bool) (s : State) : State := if v then setLinkEnable s else clearLinkEnable s

/-- A WRITE of the whole CONTROL register (R185): each field goes to its block; the role bit is ignored. -/
def writeControl (v : Word) (s : State) : State :=
  respond .accepted (setEnable (v.getLsbD 3)
    (setPace (if v.getLsbD 2 then .track else .stall)
      (setArb (if v.getLsbD 1 then .systemFirst else .alternate) (setMerge (v.getLsbD 0) s))))

/-- CAUSE (R191): each bit written as 1 is cleared. -/
def writeCause (v : Word) (s : State) : State :=
  respond .accepted { s with causes := s.causes &&& ~~~ (v.extractLsb' 0 13) }

/-- ENABLE (R192). -/
def writeEnable (v : Word) (s : State) : State := respond .accepted { s with enables := v.extractLsb' 0 13 }

/-- A configuration write: ACCEPTED with its fields in range, else REFUSED with none changed (R184). -/
def writeSettings (c : Option Settings) (s : State) : State :=
  match c with
  | some c => respond .accepted { s with cfg := c }
  | none => respond .refused s

/-- LINKCFG (R120): only with the link OFF. -/
def writeLinkcfgRegister (v : Word) (s : State) : State :=
  if s.link.state = .off then writeSettings (writeLinkcfg v s.cfg) s else respond .refused s

/-- KEEPCFG (R140). -/
def writeKeepcfgRegister (v : Word) (s : State) : State := writeSettings (writeKeepcfg v s.cfg) s

/-- ACKCFG (R140). -/
def writeAckcfgRegister (v : Word) (s : State) : State := writeSettings (writeAckcfg v s.cfg) s

/-- An accepted write at which the copy engine examines its conditions (R83). -/
def writeCopySettings (c : Option Settings) (s : State) : State :=
  match c with
  | some c => respond .accepted (examineCopy { s with cfg := c })
  | none => respond .refused s

/-- PACECFG (R52, R83). -/
def writePacecfgRegister (v : Word) (s : State) : State := writeCopySettings (writePacecfg v s.cfg) s

/-- COPYCFG (R84, R83). -/
def writeCopycfgRegister (v : Word) (s : State) : State := writeCopySettings (writeCopycfg v s.cfg) s

/-- A REGION register (R45, R47). -/
def writeRegionRegister (n : Fin 8) (half : RegionHalf) (v : Word) (s : State) : State :=
  acceptIf s.roleDisabled (fun s => { s with regions := s.regions.set n (writeRegion half v s.regions[n]) }) s

/-- The REGION register an index names: 0x20 + 2n base, 0x21 + 2n limit (spec/10, register summary). -/
def regionIndex (index : Byte) : Option (Fin 8 × RegionHalf) :=
  if index.extractLsb' 4 4 = 2 then
    some ((index.extractLsb' 1 3).toFin, if index.getLsbD 0 then .limit else .base)
  else none

/-- Whether an index names a read-only register: ID, STATUS, JOURNAL to MARKS, COPY_FAULT_BLOCK, the counters
(spec/10, register summary; R184). -/
def isReadOnly (index : Byte) : Bool :=
  index = 0x00 || index = 0x02 || (0x06 ≤ index.toNat && index.toNat ≤ 0x0B) || index = 0x11 ||
    (0x30 ≤ index.toNat && index.toNat ≤ 0x3C)

/-- A WRITE of any index (R183). -/
def writeRegister (index : Byte) (v : Word) (s : State) : State :=
  if index = 0x01 then writeControl v s
  else if index = 0x03 then writeCommand (v.extractLsb' 0 8) s
  else if index = 0x04 then writeCause v s
  else if index = 0x05 then writeEnable v s
  else if index = 0x0C then writeLinkcfgRegister v s
  else if index = 0x0D then writeAckcfgRegister v s
  else if index = 0x0E then writeKeepcfgRegister v s
  else if index = 0x0F then writePacecfgRegister v s
  else if index = 0x10 then writeCopycfgRegister v s
  else
    match regionIndex index with
    | some (n, half) => writeRegionRegister n half v s
    | none => if isReadOnly index then respond .refused s else respond .noRegister s

/-! ### Register reads -/

/-- CONTROL as read (spec/10, register summary). -/
def readControl (s : State) : Word :=
  (BitVec.ofBool (s.role = .origin) ++ (0#4 ++ (BitVec.ofBool s.control.linkEnable ++
    (BitVec.ofBool (s.control.pace = .track) ++
      (BitVec.ofBool (s.control.arb = .systemFirst) ++ BitVec.ofBool s.control.merge))))).setWidth 32

/-- The role state's code in STATUS. -/
def roleStateCode (s : State) : BitVec 2 :=
  match s.role with
  | .origin =>
    match s.mirror.state with
    | .disabled => 0
    | .tracking => 1
    | .resyncing => 2
    | .synced => 3
  | .replica =>
    match s.mirror.replica with
    | .disabled => 0
    | .listening => 1
    | .applying => 2

/-- The link state's code in STATUS. -/
def linkStateCode : LinkState → BitVec 2
  | .off => 0
  | .down => 1
  | .connecting => 2
  | .up => 3

/-- Bits 13 to 8 of STATUS, which read 0 in the REPLICA role. -/
def statusOriginBits (s : State) : BitVec 6 :=
  match s.role with
  | .origin =>
    BitVec.ofBool s.mirror.drainConsistent ++ (BitVec.ofBool s.drainPending ++
      (BitVec.ofBool s.mirror.pendingMark.isSome ++ (BitVec.ofBool s.mirror.incomplete ++
        (BitVec.ofBool s.copy.paused ++ BitVec.ofBool s.held))))
  | .replica => 0

/-- Bits 16 to 14 of STATUS, which read 0 in the ORIGIN role. -/
def statusReplicaBits (s : State) : BitVec 3 :=
  match s.role with
  | .origin => 0
  | .replica => BitVec.ofBool s.apply.fault ++ (BitVec.ofBool s.apply.fresh ++ BitVec.ofBool s.apply.coherent)

/-- STATUS (spec/10, register summary). -/
def readStatus (s : State) : Word :=
  (statusReplicaBits s ++ (statusOriginBits s ++ (s.link.session ++ (linkStateCode s.link.state ++ roleStateCode s)))).setWidth 32

/-- ID (spec/10, register summary): part code, family code, silicon revision. -/
def readId : Word := 0x0620#16 ++ (0x4D#8 ++ Sys2Proof.Config.siliconRevision)

/-- A register of one role's fields reads 0 in the other role (R182). -/
def originOnly (s : State) (v : Word) : Word := if s.role = .origin then v else 0

/-- The index as a counter's place, 0x30 to 0x3C. -/
def readCounter (index : Byte) (s : State) : Option Word :=
  if h : 0x30 ≤ index.toNat ∧ index.toNat ≤ 0x3C then
    some ((s.counters[index.toNat - 0x30]'(by omega)).setWidth 32)
  else none

/-- The value of a REGION register. -/
def readRegion (n : Fin 8) (half : RegionHalf) (s : State) : Word :=
  match half with
  | .base => readRegionBase s.regions[n]
  | .limit => (s.regions[n]).limit.setWidth 32

/-- The value a READ of an index captures, or none where the index names no register (R182). A READ has no
side effect. -/
def readRegister (index : Byte) (s : State) : Option Word :=
  if index = 0x00 then some readId
  else if index = 0x01 then some (readControl s)
  else if index = 0x02 then some (readStatus s)
  else if index = 0x03 then some 0
  else if index = 0x04 then some (s.causes.setWidth 32)
  else if index = 0x05 then some (s.enables.setWidth 32)
  else if index = 0x06 then
    some (originOnly s (BitVec.ofNat 16 s.journal.inFlight ++ BitVec.ofNat 16 s.journal.occupancy))
  else if index = 0x07 then some (originOnly s (BitVec.ofNat 32 s.dirty.count))
  else if index = 0x08 then some (originOnly s (s.dirty.cursor.setWidth 32))
  else if index = 0x09 then some (if s.role = .origin then s.journal.nextSeq else s.apply.expected)
  else if index = 0x0A then some (if s.role = .origin then s.journal.lastAcked else s.apply.lastAckSent)
  else if index = 0x0B then
    some (if s.role = .origin then s.mirror.lastAckedMark ++ s.mirror.lastIssued
      else s.apply.lastConsistent ++ s.apply.lastMark)
  else if index = 0x0C then some ((s.cfg.window ++ (0#8 ++ s.cfg.divisor)).setWidth 32)
  else if index = 0x0D then some ((s.cfg.retryLimit ++ (0#4 ++ s.cfg.ackTimeout)).setWidth 32)
  else if index = 0x0E then some (s.cfg.silence ++ (0#2 ++ s.cfg.keepalive))
  else if index = 0x0F then
    some ((s.cfg.stallLimit ++ (0#1 ++ (s.cfg.copyCeiling ++ s.cfg.highWatermark))).setWidth 32)
  else if index = 0x10 then some ((s.cfg.ackEvery ++ (0#6 ++ s.cfg.copyPacing)).setWidth 32)
  else if index = 0x11 then some (originOnly s (s.copy.faultBlock.setWidth 32))
  else
    match regionIndex index with
    | some (n, half) => some (readRegion n half s)
    | none => readCounter index s

/-! ### The transaction, byte by byte -/

/-- SPSEL is asserted: a transaction begins with its OPCODE byte (R181). -/
def selectPort (s : State) : State := { s with sp := { s.sp with phase := .opcode, dataOut := 0, response := none } }

/-- SPSEL is deasserted: the transaction ends in whatever phase it is, and a WRITE short of its fourth DATA byte is
discarded (R181, R183). -/
def deselectPort (s : State) : State := { s with sp.phase := .deselected }

/-- A transaction at the end of its INDEX byte (R182): a READ captures the register; an opcode that is neither READ
nor WRITE captures nothing and is answered REFUSED. A WRITE is not judged there (R183). -/
def takeAtIndexByte (opcode index : Byte) (s : State) : State :=
  if opcode = 0x01 then
    match readRegister index s with
    | some v => { s with sp := { s.sp with phase := .data opcode index [], dataOut := v, response := some .accepted } }
    | none => { s with sp := { s.sp with phase := .data opcode index [], dataOut := 0, response := some .noRegister } }
  else if opcode = 0x02 then { s with sp := { s.sp with phase := .data opcode index [], dataOut := 0, response := none } }
  else { s with sp := { s.sp with phase := .data opcode index [], dataOut := 0, response := some .refused } }

/-- A transaction at the end of its fourth DATA byte: a WRITE is taken with the value received, least significant
byte first (R181, R183); any other only goes on to its response. -/
def takeAtDataEnd (opcode index : Byte) (received : List Byte) (s : State) : State :=
  if opcode = 0x02 then writeRegister index (BitVec.ofNat 32 (ofLeBytes received)) s
  else { s with sp.phase := .response }

/-- One byte time of a selected port, with the byte that SPDI carries (R181). After the response the port is in DONE,
where clocks change nothing, and so they do in a transaction that is ignored (R193). -/
def clockByte (b : Byte) (s : State) : State :=
  match s.sp.phase with
  | .opcode => { s with sp.phase := .index b }
  | .index opcode => takeAtIndexByte opcode b s
  | .data opcode index received =>
    if received.length < 3 then { s with sp.phase := .data opcode index (received ++ [b]) }
    else takeAtDataEnd opcode index (received ++ [b]) s
  | .response => { s with sp.phase := .done }
  | .deselected | .done | .ignored => s

/-- OPCODE and INDEX of a transaction. -/
def clockHead (opcode index : Byte) (s : State) : State := clockByte index (clockByte opcode s)

/-- A WRITE with the DATA bytes that SPSEL stays for (R183): taken at the fourth, discarded when SPSEL goes before. -/
def writeTransaction (index : Byte) (data : List Byte) (s : State) : State :=
  let t := data.foldl (fun s b => clockByte b s) (clockHead 0x02 index s)
  if data.length < 4 then deselectPort t else t

/-- The end of the transaction before: SPSEL is deasserted, at which a SOFT_RESET that waits is taken (R188), with the
levels at which MARK and DRAIN then stand (log 23). -/
def endTransaction (s : State) : State := deselectPort (takeSoftReset ⟨s.markPin, s.drainPin⟩ false s)

/-- A command of the service port stands for a transaction of its own, from its assertion of SPSEL, before which
SPSEL was deasserted (R181). Under PORST the port ignores SPSEL (R181); a transaction begun before PORST was
deasserted is ignored and ends with SPSEL deasserted (R193). -/
def whenServed (f : State → State) (s : State) : State :=
  if s.porst then s
  else if s.sp.phase = .ignored then deselectPort s
  else f (selectPort (endTransaction s))

/-- One byte time without a command (R181, log 7): what is left of a transaction that has been judged is clocked out,
and SPSEL is deasserted after it; a WRITE not yet taken loses SPSEL. While a SOFT_RESET waits for the end of the
RESPONSE byte, that end is SOFT_RESET_TAKEN's (R188, log 23). -/
def serviceByteTime (s : State) : State :=
  if s.porst || s.sp.resetPending then s
  else
    match s.sp.phase with
    | .deselected => s
    | .data opcode _ _ => if opcode = 0x02 then deselectPort s else clockByte 0 s
    | .response => clockByte 0 s
    | .opcode | .index _ | .done | .ignored => deselectPort s

/-! ### The rows -/

/-- START (R99, R163). -/
def execStart (s : State) : Host.Outcome State Fault Refusal := .next (whenServed commandStart s)

/-- STOP (R104, R164). -/
def execStop (s : State) : Host.Outcome State Fault Refusal := .next (whenServed commandStop s)

/-- RESEED (R105). -/
def execReseed (s : State) : Host.Outcome State Fault Refusal := .next (whenServed commandReseed s)

/-- PAUSE (R106). -/
def execPause (s : State) : Host.Outcome State Fault Refusal := .next (whenServed commandPause s)

/-- RESYNC (R106). -/
def execResync (s : State) : Host.Outcome State Fault Refusal := .next (whenServed commandResync s)

/-- MARK (R111). -/
def execMark (s : State) : Host.Outcome State Fault Refusal := .next (whenServed commandMark s)

/-- DRAIN (R114). -/
def execDrain (s : State) : Host.Outcome State Fault Refusal := .next (whenServed commandDrain s)

/-- LINK_RESET (R157). -/
def execLinkReset (s : State) : Host.Outcome State Fault Refusal := .next (whenServed commandLinkReset s)

/-- CLEAR_COUNTERS (R189). -/
def execClearCounters (s : State) : Host.Outcome State Fault Refusal := .next (whenServed commandClearCounters s)

/-- SOFT_RESET (R188). -/
def execSoftReset (s : State) : Host.Outcome State Fault Refusal := .next (whenServed commandSoftReset s)

/-- UNKNOWN_COMMAND (R186): a WRITE to COMMAND with this code. -/
def execUnknownCommand (code : Byte) (s : State) : Host.Outcome State Fault Refusal :=
  .next (whenServed (writeCommand code) s)

/-- CONTROL_MERGE (R185). -/
def execControlMerge (v : Bool) (s : State) : Host.Outcome State Fault Refusal :=
  .next (whenServed (fun s => respond .accepted (setMerge v s)) s)

/-- CONTROL_ARB (R71). -/
def execControlArb (v : ArbPolicy) (s : State) : Host.Outcome State Fault Refusal :=
  .next (whenServed (fun s => respond .accepted (setArb v s)) s)

/-- CONTROL_PACE (R52). -/
def execControlPace (v : PacePolicy) (s : State) : Host.Outcome State Fault Refusal :=
  .next (whenServed (fun s => respond .accepted (setPace v s)) s)

/-- CONTROL_LINK_ENABLE (R137). -/
def execControlLinkEnable (v : Bool) (s : State) : Host.Outcome State Fault Refusal :=
  .next (whenServed (fun s => respond .accepted (setEnable v s)) s)

/-- CAUSE (R191). -/
def execCause (v : Word) (s : State) : Host.Outcome State Fault Refusal := .next (whenServed (writeCause v) s)

/-- ENABLE (R192). -/
def execEnable (v : Word) (s : State) : Host.Outcome State Fault Refusal := .next (whenServed (writeEnable v) s)

/-- LINKCFG (R120). -/
def execLinkcfg (v : Word) (s : State) : Host.Outcome State Fault Refusal :=
  .next (whenServed (writeLinkcfgRegister v) s)

/-- KEEPCFG (R140). -/
def execKeepcfg (v : Word) (s : State) : Host.Outcome State Fault Refusal :=
  .next (whenServed (writeKeepcfgRegister v) s)

/-- ACKCFG (R140). -/
def execAckcfg (v : Word) (s : State) : Host.Outcome State Fault Refusal :=
  .next (whenServed (writeAckcfgRegister v) s)

/-- PACECFG (R52). -/
def execPacecfg (v : Word) (s : State) : Host.Outcome State Fault Refusal :=
  .next (whenServed (writePacecfgRegister v) s)

/-- COPYCFG (R84). -/
def execCopycfg (v : Word) (s : State) : Host.Outcome State Fault Refusal :=
  .next (whenServed (writeCopycfgRegister v) s)

/-- REGION (R47). -/
def execRegion (n : Fin 8) (half : RegionHalf) (v : Word) (s : State) : Host.Outcome State Fault Refusal :=
  .next (whenServed (writeRegionRegister n half v) s)

/-- REGISTER_WRITE (R183). -/
def execRegisterWrite (index : Byte) (data : List Byte) (s : State) : Host.Outcome State Fault Refusal :=
  .next (whenServed (writeTransaction index data) s)

/-- INVALID_OPCODE (R182): a transaction up to the end of its INDEX byte. -/
def execInvalidOpcode (opcode index : Byte) (s : State) : Host.Outcome State Fault Refusal :=
  .next (whenServed (clockHead opcode index) s)

end Sys2Proof.Machine
end

