-- ==== Sys2Proof/Machine/Dispatch.lean ====
section
/-! DEFINITION. Dispatch: one arm for each row of spec/opcode_table.json, in the table's order. -/

namespace Sys2Proof.Machine

def exec (i : Instr) (s : State) : Host.Outcome State Fault Refusal :=
  match i with
  | .masterTransaction request => Sys2Proof.Machine.execMasterTransaction request s
  | .memoryReady => Sys2Proof.Machine.execMemoryReady s
  | .systemMemoryAnswer beats data => Sys2Proof.Machine.execSystemMemoryAnswer beats data s
  | .completionTaken => Sys2Proof.Machine.execCompletionTaken s
  | .stallTimerExpiry => Sys2Proof.Machine.execStallTimerExpiry s
  | .heldWriteAckReport => Sys2Proof.Machine.execHeldWriteAckReport s
  | .dirtyMarkReport => Sys2Proof.Machine.execDirtyMarkReport s
  | .mirrorAckReport => Sys2Proof.Machine.execMirrorAckReport s
  | .copyStart => Sys2Proof.Machine.execCopyStart s
  | .copyPacingTimerExpiry => Sys2Proof.Machine.execCopyPacingTimerExpiry s
  | .lineReadAnswer beats data => Sys2Proof.Machine.execLineReadAnswer beats data s
  | .load => Sys2Proof.Machine.execLoad s
  | .frameBoundary => Sys2Proof.Machine.execFrameBoundary s
  | .frameEnd => Sys2Proof.Machine.execFrameEnd s
  | .breakStart => Sys2Proof.Machine.execBreakStart s
  | .breakEnd => Sys2Proof.Machine.execBreakEnd s
  | .receiverAlign => Sys2Proof.Machine.execReceiverAlign s
  | .rxFraming check => Sys2Proof.Machine.execRxFraming check s
  | .rxTruncation => Sys2Proof.Machine.execRxTruncation s
  | .dataFrameReceived bytes => Sys2Proof.Machine.execDataFrameReceived bytes s
  | .helloReceived bytes => Sys2Proof.Machine.execHelloReceived bytes s
  | .helloAckReceived bytes => Sys2Proof.Machine.execHelloAckReceived bytes s
  | .ackReceived bytes => Sys2Proof.Machine.execAckReceived bytes s
  | .nakReceived bytes => Sys2Proof.Machine.execNakReceived bytes s
  | .helloKeepaliveTimerExpiry => Sys2Proof.Machine.execHelloKeepaliveTimerExpiry s
  | .silenceTimerExpiry => Sys2Proof.Machine.execSilenceTimerExpiry s
  | .ackTimerExpiry => Sys2Proof.Machine.execAckTimerExpiry s
  | .breakDetected => Sys2Proof.Machine.execBreakDetected s
  | .applyTakeFrame => Sys2Proof.Machine.execApplyTakeFrame s
  | .applyWriteAnswer beats => Sys2Proof.Machine.execApplyWriteAnswer beats s
  | .start => Sys2Proof.Machine.execStart s
  | .stop => Sys2Proof.Machine.execStop s
  | .reseed => Sys2Proof.Machine.execReseed s
  | .pause => Sys2Proof.Machine.execPause s
  | .resync => Sys2Proof.Machine.execResync s
  | .mark => Sys2Proof.Machine.execMark s
  | .markPinEdge level => Sys2Proof.Machine.execMarkPinEdge level s
  | .drain => Sys2Proof.Machine.execDrain s
  | .drainPinEdge level => Sys2Proof.Machine.execDrainPinEdge level s
  | .linkReset => Sys2Proof.Machine.execLinkReset s
  | .clearCounters => Sys2Proof.Machine.execClearCounters s
  | .softReset => Sys2Proof.Machine.execSoftReset s
  | .softResetTaken pins selected => Sys2Proof.Machine.execSoftResetTaken pins selected s
  | .unknownCommand code => Sys2Proof.Machine.execUnknownCommand code s
  | .controlMerge value => Sys2Proof.Machine.execControlMerge value s
  | .controlArb value => Sys2Proof.Machine.execControlArb value s
  | .controlPace value => Sys2Proof.Machine.execControlPace value s
  | .controlLinkEnable value => Sys2Proof.Machine.execControlLinkEnable value s
  | .cause value => Sys2Proof.Machine.execCause value s
  | .enable value => Sys2Proof.Machine.execEnable value s
  | .linkcfg value => Sys2Proof.Machine.execLinkcfg value s
  | .keepcfg value => Sys2Proof.Machine.execKeepcfg value s
  | .ackcfg value => Sys2Proof.Machine.execAckcfg value s
  | .pacecfg value => Sys2Proof.Machine.execPacecfg value s
  | .copycfg value => Sys2Proof.Machine.execCopycfg value s
  | .region n half value => Sys2Proof.Machine.execRegion n half value s
  | .registerWrite index data => Sys2Proof.Machine.execRegisterWrite index data s
  | .invalidOpcode opcode index => Sys2Proof.Machine.execInvalidOpcode opcode index s
  | .srstAssert => Sys2Proof.Machine.execSrstAssert s
  | .srstDeassert => Sys2Proof.Machine.execSrstDeassert s
  | .porstAssert => Sys2Proof.Machine.execPorstAssert s
  | .porstDeassert role pins selected => Sys2Proof.Machine.execPorstDeassert role pins selected s

end Sys2Proof.Machine
end

