-- ==== Sys2Proof/Machine/Pins.lean ====
section
/-! DEFINITION. What the output pins show of the state: the system-side and memory-side buses (R43, R65), TXD (R119),
SPDO (R181). IRQ and SYNC are in Flags; DRAINED is the mirror controller's `drained` (R98). -/

namespace Sys2Proof.Machine

/-! ### Beats of a transfer -/

/-- The beats of a transaction: one word, or the four of a line (00_scope.md, Line). -/
def TxnKind.beats : TxnKind → Nat
  | .wordRead | .wordWrite => 1
  | .lineRead | .lineWrite => 4

/-- Whether a transaction is a burst. -/
def TxnKind.isLine : TxnKind → Bool
  | .lineRead | .lineWrite => true
  | .wordRead | .wordWrite => false

/-- Word `i` of a line, at address + 4i. -/
def lineWord (l : Line) (i : Nat) : Word := l.extractLsb' (32 * i) 32

/-- The words of the first `n` beats, lowest address first. -/
def lineWords (l : Line) (n : Nat) : List Word := (List.range n).map (lineWord l)

/-! ### System-side bus -/

/-- SYRDY: the master is given a completion (R43). -/
def State.syrdy (s : State) : Bool :=
  match s.sys.phase with
  | .complete _ _ _ => true
  | _ => false

/-- SYERR: the completion is MEM_ERROR (R43). -/
def State.syerr (s : State) : Bool :=
  match s.sys.phase with
  | .complete _ code _ => code == .memError
  | _ => false

/-- SYFNC: the completion is FENCED (R43). -/
def State.syfnc (s : State) : Bool :=
  match s.sys.phase with
  | .complete _ code _ => code == .fenced
  | _ => false

/-- The data beats of a completed read on SYD, lowest address first (R43); none otherwise. -/
def State.sydBeats (s : State) : List Word :=
  match s.sys.phase with
  | .complete t _ data => if t.kind.isWrite then [] else lineWords data t.kind.beats
  | _ => []

/-! ### Memory-side bus -/

/-- One beat on the memory-side bus: the four byte enables of MMBE, and the word on MMD of a write (R65). -/
structure MemBeat where
  enables : BitVec 4
  data : Option Word
  deriving DecidableEq, Repr

/-- What the memory port drives for a transaction it starts with MMSTB (R65): MMA, MMWR, MMBST, and the beats. -/
structure MemDrive where
  mma : Addr
  mmwr : Bool
  mmbst : Bool
  beats : List MemBeat
  deriving DecidableEq, Repr

/-- Beat `i` of a memory transaction (R65): its four bits of the mask, and its word of a write. -/
def MemTransaction.beat (t : MemTransaction) (i : Nat) : MemBeat where
  enables := t.mask.extractLsb' (4 * i) 4
  data := if t.kind.isWrite then some (lineWord t.data i) else none

/-- A memory transaction as driven (R65): nothing split, merged or added. -/
def MemTransaction.drive (t : MemTransaction) : MemDrive where
  mma := t.address
  mmwr := t.kind.isWrite
  mmbst := t.kind.isLine
  beats := (List.range t.kind.beats).map t.beat

/-- What stands on the memory-side bus (R65, R66): the transaction at memory, which the port keeps through every
reset (R76); nothing in FREE and RECOVERY. How long the outputs stay driven is the model's choice (log 30). -/
def MemoryPort.drive (p : MemoryPort) : Option MemDrive :=
  match p.phase with
  | .busy t _ => some t.drive
  | .free | .recovery => none

/-- MMSTB: a transaction is at memory (R65); shown for as long as the other outputs, by the model's choice (log 30). -/
def MemoryPort.mmstb (p : MemoryPort) : Bool := p.drive.isSome

/-! ### TXD -/

/-- The level of TXD `k` bit times into the line state it stands in (R119, R121, R126 to R128): mark at rest and after
the last character of a frame, space in a break, and the frame's characters while it is sent. A cut frame has at most
ten bits of the character in progress left, the last of them its stop bit, so that the line is at mark from the tenth
on; which bits come before, the state does not hold (log 22). -/
def TxLine.level (l : TxLine) (k : Nat) : Option Level :=
  match l with
  | .idle | .gap => some true
  | .space => some false
  | .sending f => some ((lineLevels f.bytes).getD k true)
  | .finishing => if k < 9 then none else some true

/-! ### SPDO -/

/-- SPDO in the present byte time, bit by bit, most significant first (R181); none while it is undriven. -/
def State.spdo (s : State) : Option (List Bool) :=
  if s.porst then none else s.sp.spdo.map fun b => (List.range 8).map fun i => b.getLsbD (7 - i)

end Sys2Proof.Machine
end

