-- ==== Sys2Proof/Safety.lean ====
section
/-! DEFINITION. What holds of the part between steps, in the words of the spec's rules: the forms of the
journal, the dirty map, the copy buffers, the receive slots and the memory port, and the agreement of the
mirror state, the replica state and the link. Each is a Bool, so that it can be decided of a state. -/

namespace Sys2Proof.Machine

/-! ### The journal -/

/-- Entries carry consecutive sequence numbers, the youngest one less than `next` (R4). -/
def consecutive (next : Seq) : List Entry → Bool
  | [] => true
  | e :: es => e.seq == next - BitVec.ofNat 32 (es.length + 1) && consecutive next es

/-- Entries with sent-once set form an unbroken run from the head (R152). -/
def sentRun : List Entry → Bool
  | [] => true
  | e :: es => (e.sentOnce || es.all (fun f => !f.sentOnce)) && sentRun es

/-- The form of the journal: at most 512 entries (R11), the send point among them or at the end (R9),
consecutive numbers (R4), every entry before the send point loaded (R9), the sent entries a run from the head
(R152), and no READING entry ever loaded (R20). -/
def Journal.wf (j : Journal) : Bool :=
  decide (j.entries.length ≤ Sys2Proof.Config.journalCapacity) && decide (j.sendPoint ≤ j.entries.length) &&
    consecutive j.nextSeq j.entries && (j.entries.take j.sendPoint).all (fun e => e.sentOnce) &&
    sentRun j.entries && j.entries.all (fun e => !(e.sentOnce && e.isReading))

/-- The form of a WRITE entry (R5): a line address, and 0 in every byte whose mask bit is clear. -/
def Entry.writeWf (e : Entry) : Bool :=
  match e.body with
  | .write line mask data => line &&& 15#26 == 0#26 && data == maskedLine mask data
  | _ => true

/-- Every WRITE entry has the form of R5. -/
def Journal.writesWf (j : Journal) : Bool := j.entries.all (fun e => e.writeWf)

/-! ### The dirty map -/

/-- The form of the dirty map: blocks listed once, in rising order, and the count that of the set bits (R28). -/
def DirtyMap.wf (m : DirtyMap) : Bool :=
  decide (m.blocks.Pairwise (fun a b => a.toNat < b.toNat)) && m.count == m.blocks.length

/-! ### Copy buffers -/

/-- The buffer a BLOCK entry names (R6). -/
def Entry.bufferIndex (e : Entry) : Option (Fin 4) :=
  match e.body with
  | .block _ b _ => some b
  | _ => none

/-- The buffers that the BLOCK entries of a run name, oldest first. -/
def blockBuffers (es : List Entry) : List (Fin 4) := es.filterMap (fun e => e.bufferIndex)

/-- A buffer is owned exactly when one BLOCK entry of the journal names it (R78). -/
def State.buffersOk (s : State) : Bool :=
  decide (blockBuffers s.journal.entries).Nodup &&
    (List.finRange 4).all (fun i => !s.copy.buffers[i].isFree == (blockBuffers s.journal.entries).contains i)

/-! ### Receive slots and the frame in hand -/

/-- A frame that the apply engine keeps in hand over several steps: a WRITE, or a BLOCK that is not poisoned
(R167). -/
def Frame.isHeld (f : Frame) : Bool :=
  match f.body with
  | .write .. | .block .. => true
  | _ => false

/-- A slot holds the bytes of a frame that passed every check of the replica's receiver, and that frame (R133). -/
def Slot.wf (c : Slot) : Bool := judgeBytes .replica c.bytes == .valid c.frame

/-- At most four slots (R129), each holding a valid frame as received (R133), and outside IDLE a WRITE or BLOCK frame
at their head (R134, R167). -/
def State.slotsOk (s : State) : Bool :=
  decide (s.rx.slots.length ≤ Sys2Proof.Config.slotCount) && s.rx.slots.all (fun c => c.wf) &&
    (s.apply.phase == .idle || (s.rx.slots.head?.any fun c => c.frame.isHeld))

/-- A frame that the layout can carry: a WRITE's line address is a multiple of 16 (spec/07, 7.2; R131). -/
def Frame.wf (f : Frame) : Bool :=
  match f.body with
  | .write line _ _ => line &&& 15#26 == 0#26
  | _ => true

/-! ### The memory port and the system port -/

/-- The system transaction at memory whose answer the system port will take, if any (R66, R76). -/
def MemoryPort.systemAtMemory (p : MemoryPort) : Option MemTransaction :=
  match p.phase with
  | .busy t .passed => if t.owner = .system then some t else none
  | _ => none

/-- A FREE port has no request waiting (R69), and the request of the engine requester is not the system port's
(R68). A transaction in AT_MEMORY waits for its grant or is at memory,
not both, and what waits or is at memory is that transaction as the master gave it (R42, R65, R68); in any
other phase the system port has no request and awaits no answer. -/
def State.portsOk (s : State) : Bool :=
  (s.mem.phase != .free || (s.mem.systemRequest.isNone && s.mem.engineRequest.isNone)) &&
    s.mem.engineRequest.all (fun q => q.owner != .system) &&
    match s.sys.phase with
    | .atMemory t =>
      (s.mem.systemRequest == some (memTransactionOf t) && s.mem.systemAtMemory.isNone) ||
        (s.mem.systemRequest.isNone && s.mem.systemAtMemory == some (memTransactionOf t))
    | _ => s.mem.systemRequest.isNone && s.mem.systemAtMemory.isNone

/-- No write to an address that the table mirrors waits for memory while the replica fences (R59). -/
def State.fenceOk (s : State) : Bool :=
  !s.fencing ||
    match s.mem.systemRequest with
    | some m => !(m.kind.isWrite && s.mirrored m.address)
    | none => true

/-! ### States of the roles and the link -/

/-- A link state that is not UP. -/
def State.notUp (s : State) : Bool := s.link.state != .up

/-- The origin's state agrees with the link and the stores (R97, R103, R111, R114): while it streams, the part
is an origin with the link UP; otherwise the journal is empty, and no write is held, no mark request waits
and no drain is pending; TRACKING has the link not UP, and in DISABLED the map is empty. -/
def State.originOk (s : State) : Bool :=
  (match s.mirror.state with
    | .resyncing | .synced => s.role == .origin && s.link.state == .up
    | .tracking => s.role == .origin && s.notUp
    | .disabled => s.dirty.blocks.isEmpty && s.dirty.count == 0) &&
    (s.streaming ||
      (s.journal.entries.isEmpty && !s.held && s.mirror.pendingMark.isNone && s.mirror.drain == .clear))

/-- In SYNCED the journal holds no BLOCK entry, and the map is empty unless the report of a mark that set a
clear bit is still on its way to the mirror controller (R101, R102). -/
def State.syncedOk (s : State) : Bool :=
  s.mirror.state != .synced ||
    (!s.journal.entries.any (fun e => e.isBlock) && (s.dirty.count == 0 || s.reports.marks.any (fun r => r.wasClear)))

/-- The replica's state agrees with the link (R162, R139): APPLYING exactly with the link UP, under a session;
outside UP the current session is 0. In the ORIGIN role the replica state is DISABLED. -/
def State.replicaOk (s : State) : Bool :=
  match s.role with
  | .origin => s.mirror.replica == .disabled
  | .replica =>
    ((s.mirror.replica == .applying) == (s.link.state == .up)) && ((s.link.session != 0) == (s.link.state == .up)) &&
      s.link.state != .down

/-- While PORST is asserted the part holds its values for PORST as far as states go (R193). -/
def State.porstOk (s : State) : Bool :=
  !s.porst || (s.mirror.state == .disabled && s.mirror.replica == .disabled && s.link.state == .off &&
    s.link.session == 0)

/-- The states of roles and link agree. -/
def State.statesOk (s : State) : Bool := s.originOk && s.replicaOk && s.porstOk

/-- The line is at mark, or comes to it at the end of a character (R126 to R128): no frame is sent and no break. -/
def TxLine.atRest : TxLine → Bool
  | .idle | .gap | .finishing => true
  | .sending _ | .space => false

/-- What goes with the link state: the enable (R137), the receiver hunting, the control slot empty and no run of space
reported in OFF (R124, R129, R135), and there the line at rest with no break pending (R119, R128); the data holding
buffer empty outside UP (R128), and the silence timer running in UP alone (R149). A receiver that stands in a reported
run of space is hunting (R135). -/
def State.linkOk (s : State) : Bool :=
  (s.control.linkEnable == (s.link.state != .off)) &&
    (s.link.state != .off || (s.rx.phase == .hunting && s.tx.slot.isNone && !s.rx.runReported &&
      s.tx.line.atRest && !s.tx.breakPending)) &&
    (!s.rx.runReported || s.rx.phase == .hunting) &&
    (s.link.state == .up || s.tx.buffer.isNone) &&
    (s.link.silenceTimer.isSome == (s.link.state == .up))

/-- The in-flight count never exceeds the window (R150). -/
def State.windowOk (s : State) : Bool := decide (s.journal.inFlight ≤ s.cfg.window.toNat)

/-! ### Words in which results are stated -/

/-- The counters after one event of `c` (R190). -/
def State.counted (s : State) (c : Counter) : Vector (BitVec 16) 13 :=
  s.counters.set c.index (saturate s.counters[c.index])

/-- The causes after `c` has been raised (R191). -/
def State.raised (s : State) (c : Cause) : BitVec 13 := s.causes ||| (1#13 <<< c.bit)

/-- The service port after a WRITE answered `r` (R181, R183). -/
def State.answered (s : State) (r : Response) : ServicePort :=
  { s.sp with phase := .response, dataOut := 0, response := some r }

/-- The mark reports after a mark of block `b`, whose bit was set before or not (R33). -/
def State.marksAfter (s : State) (b : Block) : List MarkReport :=
  s.reports.marks ++ [⟨b, !decide (b ∈ s.dirty.blocks)⟩]

/-- The memory port after a request of the engine requester: granted at once at a FREE port, else waiting
(R69). -/
def State.memAfterEngine (s : State) (q : MemTransaction) : MemoryPort :=
  if s.mem.phase = .free then { s.mem with phase := .busy q .passed, lastGranted := .engine }
  else { s.mem with engineRequest := some q }

/-- The part is aligned on a link that is not OFF, so that it takes frames (R129). -/
def State.aligned (s : State) : Prop := s.link.state ≠ .off ∧ s.rx.phase ≠ .hunting

/-- The service port takes a transaction on the state as it stands: it is in none that is ignored (R193), and no
SOFT_RESET waits for the end of the one before (R188). -/
abbrev State.portReady (s : State) : Prop := s.sp.phase ≠ .ignored ∧ s.sp.resetPending = false

/-- A timer restarted by a valid frame of session `n` (R149). -/
def State.silenceAfter (s : State) (n : SessionNo) : Timer :=
  if s.link.state = .up ∧ n = s.link.session then some s.cfg.silence.toNat else s.link.silenceTimer

end Sys2Proof.Machine
end

