-- ==== Sys2Proof/Certificates/Slice0/Obligations.lean ====
section
/-! DEFINITION. What is claimed of the model, statement by statement, from the rules of spec/. The shared words
of the statements (counted, raised, answered, marksAfter, memAfterEngine, silenceAfter, aligned, portReady) are in Safety. -/

section
open Sys2Proof Sys2Proof.Machine

/-! ### The machine as a whole -/

/-- A step takes the command at the front of the queue and runs it on the state with the queue's rest (the queue is
the model's own, log 7). With an empty queue the part idles, but that the service port clocks out a transaction it
has judged: the DATA bytes left, the response, DONE, and the deassertion of SPSEL; a SOFT_RESET that waits is not
overtaken (R181, R188; that this happens on an empty queue is the model's choice, log 7). -/
def Obligations.StepTakesFrontCommand : Prop :=
  (∀ (c : Instr) (rest : List Instr) (s : State), s.pending = c :: rest → step s = exec c { s with pending := rest }) ∧
  (∀ s : State, s.pending = [] →
    (s.porst = true ∨ s.sp.resetPending = true ∨ s.sp.phase = .deselected → step s = .next s) ∧
    (s.porst = false → s.sp.resetPending = false →
      (∀ opcode index received, s.sp.phase = .data opcode index received → opcode ≠ 2 →
        (received.length < 3 → step s = .next { s with sp.phase := .data opcode index (received ++ [0]) }) ∧
        (3 ≤ received.length → step s = .next { s with sp.phase := .response })) ∧
      (s.sp.phase = .response → step s = .next { s with sp.phase := .done }) ∧
      (s.sp.phase = .done ∨ s.sp.phase = .ignored → step s = .next { s with sp.phase := .deselected })))

/-- Every command answers a next state in every state: none is refused and none faults; the queue is left alone
(the model's choices of log 6, log 7 and log 27). -/
def Obligations.EveryCommandCompletes : Prop :=
  ∀ (c : Instr) (s : State), ∃ t, exec c s = .next t ∧ t.pending = s.pending

/-- The values that the reset tables of the spec give after PORST (R10, R30, R44, R45, R52, R77, R80, R97, R98,
R128, R129, R138, R140, R162, R167, R190 to R192). The invariants below hold right after reset. -/
def Obligations.ResetValuesAndInvariantsAtReset : Prop :=
  (State.reset.journal = ⟨[], 0, 1, 0⟩ ∧ State.reset.dirty = ⟨[], 0, 0⟩ ∧
  State.reset.sys = ⟨.idle, none⟩ ∧ State.reset.mem = ⟨.free, none, none, .engine⟩ ∧
  State.reset.cfg = ⟨0, 16, 1000, 8, 500, 4000, 448, 384, 50, 0, 4⟩ ∧
  State.reset.control = ⟨true, .alternate, .stall, false⟩ ∧
  (∀ n : Fin 8, State.reset.regions[n] = ⟨false, 0, 0, .exclude⟩) ∧
  (∀ i : Fin 4, State.reset.copy.buffers[i].owner = none) ∧
  State.reset.copy.records = [] ∧ State.reset.copy.outstanding = none ∧ State.reset.copy.paused = false ∧
  State.reset.copy.pacingTimer = none ∧ State.reset.copy.pendingStart = false ∧ State.reset.copy.faultBlock = 0 ∧
  State.reset.mirror = ⟨.disabled, .disabled, false, 0, 0, none, .clear, false, false⟩ ∧
  State.reset.link = ⟨.off, 0, none, none, none, 0, false⟩ ∧
  State.reset.tx.slot = none ∧ State.reset.tx.buffer = none ∧ State.reset.tx.breakPending = false ∧
  State.reset.rx = ⟨.hunting, [], false⟩ ∧ State.reset.sp.phase = .deselected ∧
  State.reset.apply = ⟨.idle, 0, 1, 0, none, false, true, false, 0, 0, 0⟩ ∧
  State.reset.causes = 0 ∧ State.reset.enables = 0 ∧ (∀ i : Fin 13, State.reset.counters[i] = 0) ∧
  State.reset.irq = false ∧ State.reset.sync = false) ∧
  (State.reset.journal.wf = true ∧ State.reset.cfg.inRange = true ∧ State.reset.dirty.wf = true ∧
  State.reset.statesOk = true ∧ State.reset.buffersOk = true ∧ State.reset.slotsOk = true ∧
  State.reset.portsOk = true ∧ State.reset.linkOk = true ∧ State.reset.windowOk = true ∧
  State.reset.syncedOk = true ∧ State.reset.fenceOk = true ∧ State.reset.journal.writesWf = true)

/-- While PORST is asserted the part takes no event from the bus master, the link or the service port, nor any of
its own: the state stays as it is, but for the memory's answers and its ready indication, the level of SRST, and
PORST itself (R193, R76, log 24). -/
def Obligations.PorstHoldsThePart : Prop :=
  ∀ (c : Instr) (s : State), s.porst = true →
    (∀ b d, c ≠ .systemMemoryAnswer b d) → (∀ b d, c ≠ .lineReadAnswer b d) → (∀ b, c ≠ .applyWriteAnswer b) →
    c ≠ .memoryReady → c ≠ .srstAssert → c ≠ .srstDeassert → c ≠ .porstAssert →
    (∀ r pins p, c ≠ .porstDeassert r pins p) → exec c s = .next s

/-- An event adds one to its counter, which stays at 65,535, and to no other; a raise sets its own cause bit, which
stays set if it was, and no other (R190, R191). -/
def Obligations.CountersSaturateAndCausesStick : Prop :=
  ∀ (s : State),
    (∀ (c d : Counter), (s.counted c)[d.index] =
      if c = d then (if s.counters[d.index] = 65535 then 65535 else s.counters[d.index] + 1)
      else s.counters[d.index]) ∧
    (∀ (c d : Cause), (s.raised c).getLsbD d.bit = (decide (c = d) || s.causes.getLsbD d.bit)) ∧
    (∀ c : Counter, bump c s = { s with counters := s.counted c }) ∧
    (∀ c : Cause, raise c s = { s with causes := s.raised c })

/-! ### The system port -/

/-- A transaction issued in IDLE that is not fenced enters AT_MEMORY and requests the memory port: granted at once
when the port is FREE, else it waits (R42, R48, R69). The port takes none outside IDLE, and none under SRST (R62).
A mirrored write issued while the replica is LISTENING or APPLYING completes FENCED at once, is counted and raises
FENCE; nothing else changes, so it is not presented to the memory port (R59, R61). -/
def Obligations.MasterTransactionGoesToMemoryOrIsFenced : Prop :=
  ((∀ (r : MasterRequest) (s : State), s.porst = false → s.srst = false → s.sys.phase = .idle →
    ¬ (s.role = .replica ∧ (s.mirror.replica = .listening ∨ s.mirror.replica = .applying) ∧
      (recordOf r).kind.isWrite = true ∧ s.mirrored (recordOf r).address = true) →
    ∃ t, t = { recordOf r with
          lookup := if s.role = .replica ∧ (recordOf r).kind.isWrite = true
            then some (s.mirrored (recordOf r).address) else none } ∧
      exec (.masterTransaction r) s = .next { s with
        sys.phase := .atMemory t
        mem := if s.mem.phase = .free
          then { s.mem with phase := .busy (memTransactionOf t) .passed, lastGranted := .system }
          else { s.mem with systemRequest := some (memTransactionOf t) } }) ∧
  (∀ (r : MasterRequest) (s : State), s.porst = false → s.srst = true ∨ s.sys.phase ≠ .idle →
    exec (.masterTransaction r) s = .next s)) ∧
  (∀ (r : MasterRequest) (s : State), s.porst = false → s.srst = false → s.sys.phase = .idle → s.role = .replica →
    s.mirror.replica = .listening ∨ s.mirror.replica = .applying → (recordOf r).kind.isWrite = true →
    s.mirrored (recordOf r).address = true →
    exec (.masterTransaction r) s = .next { s with
      sys.phase := .complete { recordOf r with lookup := some true } .fenced 0
      counters := s.counted .fenced
      causes := s.raised .fence })

/-- Memory's ready indication ends RECOVERY: the port becomes FREE, or grants the one waiting request, or decides
between two by CONTROL.arb (R66, R68, R69). In another phase it changes nothing. -/
def Obligations.ReadyArbitratesWaitingRequests : Prop :=
  ∀ (s : State),
    (s.mem.phase ≠ .recovery → exec .memoryReady s = .next s) ∧
    (s.mem.phase = .recovery →
      (s.mem.systemRequest = none → s.mem.engineRequest = none →
        exec .memoryReady s = .next { s with mem.phase := .free }) ∧
      (∀ t, s.mem.systemRequest = some t →
        s.mem.engineRequest = none ∨ s.control.arb = .systemFirst ∨ s.mem.lastGranted = .engine →
        exec .memoryReady s = .next { s with
          mem := { s.mem with phase := .busy t .passed, systemRequest := none, lastGranted := .system } }) ∧
      (∀ u, s.mem.engineRequest = some u →
        s.mem.systemRequest = none ∨ (s.control.arb = .alternate ∧ s.mem.lastGranted = .system) →
        exec .memoryReady s = .next { s with
          mem := { s.mem with phase := .busy u .passed, engineRequest := none, lastGranted := .engine } }))

/-- The answer of a transaction that is not captured, and the taking of its completion: a read returns memory's
data, an ERROR completes MEM_ERROR with data 0 and records nothing, and a write that is not mirrored, is answered
in DISABLED, or belongs to a replica completes OK; an answer dropped at the port gives nothing. An ERROR on any
beat is an ERROR of the whole (R42, R43, R49, R51, R67, R72, R76). That a word read takes the low 32 bits of the
answer's data is the model's choice (log 19). A completion shows on the system-side bus as ready alone for OK, with
the error indication for MEM_ERROR and with the fenced indication for FENCED, and in no other phase; a completed
read shows its words, lowest address first (R43; the words of a line are log 19's). -/
def Obligations.UncapturedAnswerCompletes : Prop :=
  ((∀ (m : MemTransaction) (t : Transaction) (oks errs : List MemAnswer) (data : Line) (s : State),
    MemAnswer.error ∉ oks → MemAnswer.error ∈ errs → s.mem.phase = .busy m .passed → m.owner = .system →
    s.sys.phase = .atMemory t →
    exec (.systemMemoryAnswer errs data) s = .next { s with
      mem.phase := .recovery, sys.phase := .complete t .memError 0 } ∧
    (t.kind = .lineRead → exec (.systemMemoryAnswer oks data) s = .next { s with
      mem.phase := .recovery, sys.phase := .complete t .ok data }) ∧
    (t.kind = .wordRead → exec (.systemMemoryAnswer oks data) s = .next { s with
      mem.phase := .recovery, sys.phase := .complete t .ok (data &&& 0xFFFFFFFF) }) ∧
    (t.kind.isWrite = true → s.role = .replica → exec (.systemMemoryAnswer oks data) s = .next { s with
      mem.phase := .recovery, sys.phase := .complete t .ok 0 }) ∧
    (t.kind.isWrite = true → s.role = .origin → s.mirrored t.address = false ∨ s.mirror.state = .disabled →
      exec (.systemMemoryAnswer oks data) s = .next { s with
        mem.phase := .recovery
        sys.phase := .complete { t with lookup := some (s.mirrored t.address) } .ok 0 })) ∧
  (∀ (m : MemTransaction) (beats : List MemAnswer) (data : Line) (s : State), s.mem.phase = .busy m .dropped →
    m.owner = .system → exec (.systemMemoryAnswer beats data) s = .next { s with mem.phase := .recovery }) ∧
  (∀ (t : Transaction) (code : Completion) (data : Line) (s : State), s.porst = false →
    s.sys.phase = .complete t code data → exec .completionTaken s = .next { s with sys.phase := .idle })) ∧
  (∀ s : State,
    ((∀ t code data, s.sys.phase ≠ .complete t code data) →
      s.syrdy = false ∧ s.syerr = false ∧ s.syfnc = false ∧ s.sydBeats = []) ∧
    (∀ t code data, s.sys.phase = .complete t code data →
      s.syrdy = true ∧ s.syerr = decide (code = .memError) ∧ s.syfnc = decide (code = .fenced) ∧
      (t.kind = .wordRead → s.sydBeats = [data.extractLsb' 0 32]) ∧
      (t.kind = .lineRead → s.sydBeats =
        [data.extractLsb' 0 32, data.extractLsb' 32 32, data.extractLsb' 64 32, data.extractLsb' 96 32]) ∧
      (t.kind.isWrite = true → s.sydBeats = [])))

/-- The record of a transaction holds its kind, the aligned address, and mask and data of a write; the memory
transaction carries the same (R41, R42, R65). The memory port drives the transaction at memory as it was handed
over: address, direction and burst, and one beat for a word or four for a line, lowest address first, each with its
four bits of the mask and, of a write, its four bytes; in FREE and RECOVERY it drives none (R65, R66; the bytes of
a line in a word are log 19's). That the outputs and MMSTB stay driven through BUSY, and no longer, is the model's
choice (log 30). A captured word write gives its line: the line address, the word's mask at its offset, and the
word's bytes there with 0 elsewhere; a line write gives its own (R49). -/
def Obligations.CapturedTransactionKeepsItsLine : Prop :=
  (∀ (a : Addr) (m : BitVec 4) (d : Word) (lm : Mask) (ld : Line),
    (recordOf (.wordRead a)).address.toNat = a.toNat / 4 * 4 ∧ (recordOf (.lineRead a)).address.toNat = a.toNat / 16 * 16 ∧
    (recordOf (.wordWrite a m d)).address.toNat = a.toNat / 4 * 4 ∧
    (recordOf (.lineWrite a lm ld)).address.toNat = a.toNat / 16 * 16 ∧
    (recordOf (.wordRead a)).kind = .wordRead ∧ (recordOf (.lineRead a)).kind = .lineRead ∧
    (recordOf (.wordWrite a m d)).kind = .wordWrite ∧ (recordOf (.lineWrite a lm ld)).kind = .lineWrite ∧
    (recordOf (.wordWrite a m d)).mask.toNat = m.toNat ∧ (recordOf (.wordWrite a m d)).data.toNat = d.toNat ∧
    (recordOf (.lineWrite a lm ld)).mask = lm ∧ (recordOf (.lineWrite a lm ld)).data = ld ∧
    ∀ t : Transaction, (memTransactionOf t).kind = t.kind ∧ (memTransactionOf t).address = t.address ∧
      (memTransactionOf t).owner = .system ∧
      (t.kind = .wordRead → (memTransactionOf t).mask = 0xF) ∧ (t.kind = .lineRead → (memTransactionOf t).mask = 0xFFFF) ∧
      (t.kind.isWrite = true → (memTransactionOf t).mask = t.mask ∧ (memTransactionOf t).data = t.data)) ∧
  (∀ p : MemoryPort,
    ((∀ t fate, p.phase ≠ .busy t fate) → p.drive = none ∧ p.mmstb = false) ∧
    (∀ (t : MemTransaction) (fate : AnswerFate), p.phase = .busy t fate → ∃ d, p.drive = some d ∧ p.mmstb = true ∧
      d.mma = t.address ∧ d.mmwr = decide (t.kind = .wordWrite ∨ t.kind = .lineWrite) ∧
      d.mmbst = decide (t.kind = .lineRead ∨ t.kind = .lineWrite) ∧
      d.beats.length = (if t.kind = .lineRead ∨ t.kind = .lineWrite then 4 else 1) ∧
      ∀ (i : Nat) (b : MemBeat), d.beats[i]? = some b →
        (∀ k, k < 4 → b.enables.getLsbD k = t.mask.getLsbD (4 * i + k)) ∧
        (t.kind = .wordRead ∨ t.kind = .lineRead → b.data = none) ∧
        (t.kind = .wordWrite ∨ t.kind = .lineWrite → ∃ w, b.data = some w ∧
          ∀ k, k < 4 → w.extractLsb' (8 * k) 8 = lineByte t.data (4 * i + k)))) ∧
  (∀ (a : Addr) (m : BitVec 4) (d : Word) (lm : Mask) (ld : Line) (k : Nat), k < 16 →
    ∃ o, o = (recordOf (.wordWrite a m d)).address.toNat % 16 ∧
      (lineAddress (recordOf (.wordWrite a m d)).address).toNat = a.toNat / 16 * 16 ∧
      (captureMask (recordOf (.wordWrite a m d))).getLsbD k = (decide (o ≤ k ∧ k < o + 4) && m.getLsbD (k - o)) ∧
      lineByte (captureData (recordOf (.wordWrite a m d))) k =
        (if o ≤ k ∧ k < o + 4 then d.extractLsb' (8 * (k - o)) 8 else 0) ∧
      captureMask (recordOf (.lineWrite a lm ld)) = lm ∧ captureData (recordOf (.lineWrite a lm ld)) = ld ∧
      lineByte (maskedLine lm ld) k = if lm.getLsbD k then lineByte ld k else 0)

/-- The outcome at the capture point, by the first case of R50 that applies: marked in TRACKING; merged into the
tail; appended; marked with the journal full under TRACK; held under STALL. Nothing else changes but that a mark
lets the copy engine examine its conditions (R13, R50, R53, R83). -/
def Obligations.CapturePointTakesFirstCase : Prop :=
  ∀ (m : MemTransaction) (t : Transaction) (oks : List MemAnswer) (data : Line) (s : State), MemAnswer.error ∉ oks →
    s.mem.phase = .busy m .passed → m.owner = .system →
    s.sys.phase = .atMemory t → t.kind.isWrite = true → s.role = .origin → s.mirrored t.address = true →
    ∃ t', t' = { t with lookup := some true } ∧
    (s.mirror.state = .tracking →
      exec (.systemMemoryAnswer oks data) s = .next { s with
        mem.phase := .recovery, sys.phase := .complete t' .ok 0
        dirty := s.dirty.mark (blockOf t.address), reports.marks := s.marksAfter (blockOf t.address) }) ∧
    (s.mirror.state = .resyncing ∨ s.mirror.state = .synced →
      (s.mayMerge (lineAddress t.address) = true →
        exec (.systemMemoryAnswer oks data) s = .next { s with
          mem.phase := .recovery, sys.phase := .complete t' .ok 0
          journal := s.journal.merge (captureMask t) (captureData t) }) ∧
      (s.mayMerge (lineAddress t.address) = false →
        ((s.control.pace = .stall ∧ s.journal.entries.length < s.cfg.highWatermark.toNat) ∨
            (s.control.pace = .track ∧ s.journal.entries.length < 512) →
          exec (.systemMemoryAnswer oks data) s = .next { s with
            mem.phase := .recovery, sys.phase := .complete t' .ok 0
            journal := { s.journal with
              entries := s.journal.entries ++ [⟨s.journal.nextSeq, false,
                .write (lineAddress t.address) (captureMask t) (maskedLine (captureMask t) (captureData t))⟩]
              nextSeq := s.journal.nextSeq + 1 } }) ∧
        (s.control.pace = .track → 512 ≤ s.journal.entries.length →
          exec (.systemMemoryAnswer oks data) s = .next (examineCopy { s with
            mem.phase := .recovery, sys.phase := .complete t' .ok 0
            dirty := s.dirty.mark (blockOf t.address), reports.marks := s.marksAfter (blockOf t.address) })) ∧
        (s.control.pace = .stall → s.cfg.highWatermark.toNat ≤ s.journal.entries.length →
          exec (.systemMemoryAnswer oks data) s = .next { s with
            mem.phase := .recovery, sys := ⟨.held t', some s.cfg.stallLimit.toNat⟩
            counters := s.counted .stalls })))

/-- A held write is released by its stall timer into the dirty map, with STALL_EXPIRIES and STALL_EXPIRED (R55); at
an acknowledge-through report below the watermark it is merged or appended, and otherwise stays held (R54). That it
stays held under TRACK as under STALL is the model's choice (log 31). -/
def Obligations.HeldWriteIsReleased : Prop :=
  ∀ (t : Transaction) (s : State), s.porst = false → s.sys.phase = .held t →
    (s.sys.stallTimer.isSome = true → exec .stallTimerExpiry s = .next (examineCopy { s with
      sys := ⟨.complete t .ok 0, none⟩
      dirty := s.dirty.mark (blockOf t.address), reports.marks := s.marksAfter (blockOf t.address)
      counters := s.counted .stallExpiries, causes := s.raised .stallExpired })) ∧
    (∀ n, s.reports.captureAcks = n + 1 →
      (s.cfg.highWatermark.toNat ≤ s.journal.entries.length →
        exec .heldWriteAckReport s = .next { s with reports.captureAcks := n }) ∧
      (s.journal.entries.length < s.cfg.highWatermark.toNat →
        (s.mayMerge (lineAddress t.address) = true → exec .heldWriteAckReport s = .next { s with
          reports.captureAcks := n, sys := ⟨.complete t .ok 0, none⟩
          journal := s.journal.merge (captureMask t) (captureData t) }) ∧
        (s.mayMerge (lineAddress t.address) = false → exec .heldWriteAckReport s = .next { s with
          reports.captureAcks := n, sys := ⟨.complete t .ok 0, none⟩
          journal := { s.journal with
            entries := s.journal.entries ++ [⟨s.journal.nextSeq, false,
              .write (lineAddress t.address) (captureMask t) (maskedLine (captureMask t) (captureData t))⟩]
            nextSeq := s.journal.nextSeq + 1 } })))

/-- SRST acts on the system port alone, by its phase: a waiting request is withdrawn, a transaction at memory is
abandoned, a held write's block is marked, a completion is withdrawn; the port is IDLE, its timer stopped. The
deassertion lets it take transactions again (R57, R62, R76). That the copy engine does not examine its conditions
at a held write's mark is the model's reading (log 20). The answer of a transaction that SRST abandoned gives no
completion: a mirrored write answered OK in an origin that is not DISABLED marks its block, with the report of any
mark, and the copy engine examines its conditions there, as log 20 reads it; nothing else is recorded (R63, R67,
R83). -/
def Obligations.SrstSettlesSystemPortAndItsAnswer : Prop :=
  ((∀ s : State, s.srst = false →
    (s.sys.phase = .idle → exec .srstAssert s = .next { s with srst := true, sys := ⟨.idle, none⟩ }) ∧
    (∀ t, s.sys.phase = .atMemory t →
      (s.mem.systemRequest.isSome = true → exec .srstAssert s = .next { s with
        srst := true, sys := ⟨.idle, none⟩, mem.systemRequest := none }) ∧
      (∀ m, s.mem.systemRequest = none → s.mem.phase = .busy m .passed → m.owner = .system →
        exec .srstAssert s = .next { s with
          srst := true, sys := ⟨.idle, none⟩, mem.phase := .busy m .abandonedBySrst })) ∧
    (∀ t, s.sys.phase = .held t → exec .srstAssert s = .next { s with
      srst := true, sys := ⟨.idle, none⟩
      dirty := s.dirty.mark (blockOf t.address), reports.marks := s.marksAfter (blockOf t.address) }) ∧
    (∀ t code data, s.sys.phase = .complete t code data →
      exec .srstAssert s = .next { s with srst := true, sys := ⟨.idle, none⟩ })) ∧
  (∀ s : State, exec .srstDeassert s = .next { s with srst := false })) ∧
  (∀ (m : MemTransaction) (beats : List MemAnswer) (answer : MemAnswer) (data : Line) (s : State),
    answer = (if MemAnswer.error ∈ beats then .error else .ok) → s.mem.phase = .busy m .abandonedBySrst → m.owner = .system →
    ((m.kind.isWrite = true ∧ answer = .ok ∧ s.role = .origin ∧ s.mirrored m.address = true ∧ s.mirror.state ≠ .disabled) →
      exec (.systemMemoryAnswer beats data) s = .next (examineCopy { s with
        mem.phase := .recovery
        dirty := s.dirty.mark (blockOf m.address), reports.marks := s.marksAfter (blockOf m.address) })) ∧
    (¬ (m.kind.isWrite = true ∧ answer = .ok ∧ s.role = .origin ∧ s.mirrored m.address = true ∧
        s.mirror.state ≠ .disabled) →
      exec (.systemMemoryAnswer beats data) s = .next { s with mem.phase := .recovery }))

/-- Lookup: the lowest-numbered enabled entry whose range contains the block decides; with EXCLUDE or with no such
entry the address is not mirrored; an entry whose limit lies below its base never matches; the seed of the dirty
map uses the same lookup (R46). -/
def Obligations.LookupTakesLowestMatchingEntry : Prop :=
  (∀ (s : State) (a : Addr), s.mirrored a = lookupBlock s.regions.toList (blockOf a)) ∧
  (∀ a : Addr, (blockOf a).toNat = a.toNat / 1024) ∧
  (∀ (r : Region) (b : Block),
    r.contains b = true ↔ r.enable = true ∧ r.base.toNat ≤ b.toNat ∧ b.toNat ≤ r.limit.toNat) ∧
  (∀ (r : Region) (b : Block), r.limit.toNat < r.base.toNat → r.contains b = false) ∧
  (∀ (table : List Region) (b : Block), lookupBlock table b = true ↔
    ∃ (i : Nat) (r : Region), table[i]? = some r ∧ r.contains b = true ∧ r.mode = .mirror ∧
      ∀ (j : Nat) (q : Region), j < i → table[j]? = some q → q.contains b = false) ∧
  (∀ (table : List Region) (m : DirtyMap) (b : Block),
    b ∈ (m.seed table).blocks ↔ b ∈ m.blocks ∨ lookupBlock table b = true)

/-! ### The journal, the dirty map and the transmitter's load -/

/-- A merge is eligible exactly when the tail is a WRITE of the same line, not sent, not in the holding buffer,
with CONTROL.merge set; it puts the captured bytes over the tail's, joins the masks, and leaves every other entry,
the tail's seq, the send point and the counters as they are (R14). -/
def Obligations.MergeFoldsIntoUnsentTail : Prop :=
  (∀ (s : State) (line : Addr), s.mayMerge line = true ↔
    ∃ (e : Entry) (m : Mask) (d : Line), s.journal.entries.getLast? = some e ∧ e.body = .write line m d ∧
      e.sentOnce = false ∧ (∀ f, s.tx.buffer = some f → f.seq ≠ e.seq) ∧ s.control.merge = true) ∧
  (∀ (j : Journal) (front : List Entry) (q : Seq) (sent : Bool) (line : Addr) (m mask : Mask) (d data : Line),
    j.entries = front ++ [⟨q, sent, .write line m d⟩] →
    ∃ d', j.merge mask data = { j with entries := front ++ [⟨q, sent, .write line (m ||| mask) d'⟩] } ∧
      ∀ k, k < 16 → lineByte d' k = if mask.getLsbD k then lineByte data k else lineByte d k)

/-- A load copies the entry at the send point into the empty holding buffer as a frame of the current session with
the entry's own contents, sets sent-once, moves the send point, and counts a retransmission when the entry had been
sent; a READING entry, the end, a full window, a full buffer or a link not UP stops it (R18, R19, R20, R150). -/
def Obligations.LoadTakesSendPointEntry : Prop :=
  ∀ (s : State), s.porst = false →
    (∀ (e : Entry) (body : FrameBody), s.role = .origin → s.link.state = .up → s.tx.buffer = none →
      s.journal.sendPoint < s.cfg.window.toNat → s.journal.entries[s.journal.sendPoint]? = some e →
      ((∃ line mask data, e.body = .write line mask data ∧ body = .write line mask data) ∨
        (∃ (n : Block) (b : Fin 4), e.body = .block n b .ready ∧ body = .block n s.copy.buffers[b].lines) ∨
        (∃ (n : Block) (b : Fin 4), e.body = .block n b .poisoned ∧ body = .poisoned n) ∨
        (∃ n c d, e.body = .mark n c d ∧ body = .mark n c d)) →
      exec .load s = .next { s with
        tx.buffer := some ⟨s.link.session, e.seq, body⟩
        journal := { s.journal with
          entries := s.journal.entries.set s.journal.sendPoint { e with sentOnce := true }
          sendPoint := s.journal.sendPoint + 1 }
        counters := if e.sentOnce then s.counted .retransmits else s.counters }) ∧
    (s.role = .replica ∨ s.link.state ≠ .up ∨ s.tx.buffer.isSome = true ∨ s.cfg.window.toNat ≤ s.journal.sendPoint ∨
        s.journal.entries[s.journal.sendPoint]? = none ∨
        (∃ (e : Entry) (n : Block) (b : Fin 4), s.journal.entries[s.journal.sendPoint]? = some e ∧
          e.body = .block n b .reading) →
      exec .load s = .next s)

/-- Acknowledge-through n removes from the head the longest run of sent entries at or before n, moves a send point
at a removed entry to the new head, and keeps the youngest removed seq as the last acknowledged; the in-flight
count is again the send sequence less the head sequence (R9, R21). Rewind: a target between head and send sequence
moves the send point to the entry of that seq; an older target is raised to the head; one past the send sequence,
or an empty journal, leaves it (R23). -/
def Obligations.AcknowledgeAndRewindMoveTheHeadAndSendPoint : Prop :=
  (∀ (j : Journal) (n : Seq), j.wf = true → ∃ k, k ≤ j.entries.length ∧
    (∀ e ∈ j.entries.take k, e.sentOnce = true ∧ (precedes e.seq n = true ∨ e.seq = n)) ∧
    (∀ e, j.entries[k]? = some e → ¬ (e.sentOnce = true ∧ (precedes e.seq n = true ∨ e.seq = n))) ∧
    (j.acknowledged n).entries = j.entries.drop k ∧ (j.acknowledged n).sendPoint = j.sendPoint - k ∧
    (j.acknowledged n).nextSeq = j.nextSeq ∧ (k = 0 → (j.acknowledged n).lastAcked = j.lastAcked) ∧
    (∀ e, 0 < k → j.entries[k - 1]? = some e → (j.acknowledged n).lastAcked = e.seq) ∧
    (j.acknowledged n).inFlight = ((j.acknowledged n).sendSeq - (j.acknowledged n).headSeq).toNat ∧
    (j.acknowledged n).wf = true) ∧
  (∀ (j : Journal) (target : Seq), j.wf = true →
    (j.entries = [] → j.rewindPoint target = j.sendPoint) ∧
    (j.entries ≠ [] → precedes target j.headSeq = true → j.rewindPoint target = 0) ∧
    (j.entries ≠ [] → atOrBefore j.headSeq target = true → atOrBefore target j.sendSeq = true →
      j.rewindPoint target ≤ j.sendPoint ∧ (target = j.sendSeq → j.rewindPoint target = j.sendPoint) ∧
      ∀ e, j.entries[j.rewindPoint target]? = some e → e.seq = target) ∧
    (j.entries ≠ [] → precedes target j.headSeq = false → precedes j.sendSeq target = true →
      j.rewindPoint target = j.sendPoint))

/-- Mark sets its block's bit and counts it once; seed sets every mirrored block, recounts and puts the cursor at
0; take-next hands over the first dirty block from the cursor upward, else the lowest, clears its bit, counts it
off and moves the cursor past it, and finds nothing exactly when no bit is set (R28, R32, R35, R37, R39). -/
def Obligations.DirtyMapMarksSeedsAndTakes : Prop :=
  ∀ (m : DirtyMap), m.wf = true →
    (∀ b, (∀ c, c ∈ (m.mark b).blocks ↔ c = b ∨ c ∈ m.blocks) ∧
      (m.mark b).count = (if b ∈ m.blocks then m.count else m.count + 1) ∧ (m.mark b).cursor = m.cursor) ∧
    (∀ table, (∀ c, c ∈ (m.seed table).blocks ↔ c ∈ m.blocks ∨ lookupBlock table c = true) ∧
      (m.seed table).wf = true ∧ (m.seed table).cursor = 0) ∧
    (m.takeNext = none ↔ m.blocks = []) ∧
    (∀ b n, m.takeNext = some (b, n) → b ∈ m.blocks ∧
      (∀ c ∈ m.blocks, m.cursor.toNat ≤ c.toNat → m.cursor.toNat ≤ b.toNat ∧ b.toNat ≤ c.toNat) ∧
      (b.toNat < m.cursor.toNat → ∀ c ∈ m.blocks, b.toNat ≤ c.toNat) ∧
      (∀ c, c ∈ n.blocks ↔ c ∈ m.blocks ∧ c ≠ b) ∧ n.count + 1 = m.count ∧
      n.cursor.toNat = if b.toNat = 65535 then 0 else b.toNat + 1)

/-- Clear-all, at PORST, at SOFT_RESET and at STOP of an origin that is not DISABLED: no bit set, count and cursor
0; STOP reports no cleared block and lets no copy start; a take-next afterwards finds nothing and a read gives 0
(R40). -/
def Obligations.ClearAllEmptiesDirtyMap : Prop :=
  (∀ s : State, ∃ t, exec .porstAssert s = .next t ∧ t.dirty = ⟨[], 0, 0⟩) ∧
  (∀ (s : State) (pins : RequestPins) (selected : Bool), s.porst = false → s.sp.resetPending = true →
    ∃ t, exec (.softResetTaken pins selected) s = .next t ∧ t.dirty = ⟨[], 0, 0⟩) ∧
  (∀ s : State, s.porst = false → s.portReady → s.role = .origin → s.mirror.state ≠ .disabled →
    ∃ t, exec .stop s = .next t ∧ t.dirty = ⟨[], 0, 0⟩ ∧ t.reports.marks = s.reports.marks ∧
      t.copy.pendingStart = s.copy.pendingStart) ∧
  (∀ s : State, s.dirty = ⟨[], 0, 0⟩ → s.dirty.takeNext = none ∧ readRegister 0x07 s = some 0 ∧ readRegister 0x08 s = some 0)

/-! ### The copy engine -/

/-- The examination decides a pending start exactly when the eight conditions of R82 hold, and changes nothing
else; the expiry of the pacing timer is a moment of examination (R82, R83, R84). A pending start takes the next
dirty block and, in RESYNCING with the journal below 512, reserves a READING BLOCK entry with the lowest FREE
buffer, makes its record, starts the pacing timer if its interval is above 0, and presents the first read when no
copy is under way; otherwise it marks the block again. A take-next that finds nothing reserves nothing and has
SYNCED checked (R16, R39, R84, R86, R88). -/
def Obligations.CopyStartIsDecidedAndReserves : Prop :=
  ((∀ s : State,
    (s.mirror.state = .resyncing ∧ s.link.state = .up ∧ s.copy.paused = false ∧
        (∃ i : Fin 4, s.copy.buffers[i].owner = none) ∧ s.journal.entries.length < s.cfg.copyCeiling.toNat ∧
        s.copy.pacingTimer = none ∧ 0 < s.dirty.count ∧ s.copy.pendingStart = false →
      examineCopy s = { s with copy.pendingStart := true }) ∧
    (¬ (s.mirror.state = .resyncing ∧ s.link.state = .up ∧ s.copy.paused = false ∧
        (∃ i : Fin 4, s.copy.buffers[i].owner = none) ∧ s.journal.entries.length < s.cfg.copyCeiling.toNat ∧
        s.copy.pacingTimer = none ∧ 0 < s.dirty.count ∧ s.copy.pendingStart = false) →
      examineCopy s = s)) ∧
  (∀ s : State, s.porst = false → s.copy.pacingTimer.isSome = true →
    exec .copyPacingTimerExpiry s = .next (examineCopy { s with copy.pacingTimer := none }))) ∧
  (∀ s : State, s.porst = false → s.copy.pendingStart = true →
    (s.dirty.takeNext = none →
      exec .copyStart s = .next (examineCopy (checkSynced { s with copy.pendingStart := false }))) ∧
    (∀ b m, s.dirty.takeNext = some (b, m) →
      (∀ i : Fin 4, s.copy.buffers[i].owner = none → (∀ j : Fin 4, j < i → s.copy.buffers[j].owner ≠ none) →
        s.mirror.state = .resyncing → s.journal.entries.length < 512 →
        s.copy.outstanding = none → s.copy.records = [] →
        exec .copyStart s = .next (examineCopy { s with
          dirty := m
          journal := { s.journal with
            entries := s.journal.entries ++ [⟨s.journal.nextSeq, false, .block b i .reading⟩]
            nextSeq := s.journal.nextSeq + 1 }
          copy := { s.copy with
            buffers := s.copy.buffers.set i { s.copy.buffers[i] with owner := some s.journal.nextSeq }
            records := [⟨b, s.journal.nextSeq, i, 0, false⟩]
            outstanding := some ⟨i, s.journal.nextSeq, 0⟩
            pacingTimer := if s.cfg.copyPacing = 0 then none else some s.cfg.copyPacing.toNat
            pendingStart := false }
          mem := s.memAfterEngine ⟨.lineRead, BitVec.ofNat 26 (b.toNat * 1024), 0xFFFF, 0,
            .copy ⟨i, s.journal.nextSeq, 0⟩⟩ })) ∧
      (∀ (i : Fin 4) (r : ReadId), s.copy.buffers[i].owner = none →
        (∀ j : Fin 4, j < i → s.copy.buffers[j].owner ≠ none) →
        s.mirror.state = .resyncing → s.journal.entries.length < 512 → s.copy.outstanding = some r →
        exec .copyStart s = .next (examineCopy { s with
          dirty := m
          journal := { s.journal with
            entries := s.journal.entries ++ [⟨s.journal.nextSeq, false, .block b i .reading⟩]
            nextSeq := s.journal.nextSeq + 1 }
          copy := { s.copy with
            buffers := s.copy.buffers.set i { s.copy.buffers[i] with owner := some s.journal.nextSeq }
            records := s.copy.records ++ [⟨b, s.journal.nextSeq, i, 0, false⟩]
            pacingTimer := if s.cfg.copyPacing = 0 then none else some s.cfg.copyPacing.toNat
            pendingStart := false } })) ∧
      (s.mirror.state ≠ .resyncing ∨ 512 ≤ s.journal.entries.length →
        exec .copyStart s = .next (examineCopy { s with
          dirty := m.mark b, reports.marks := s.reports.marks ++ [⟨b, true⟩], copy.pendingStart := false }))))

/-- The answer of a live copy's read before line 63: an OK stores the line in the copy's buffer, an ERROR on any
beat stores nothing and poisons the copy, and either way the next line is requested, at block × 1,024 + line × 16
(R67, R88 to R90). A copy ends at the answer of line 63: its entry, and no other, becomes READY, or POISONED if any
read failed; a poisoned copy gives COPY_FAULT_BLOCK, COPY_FAULTS, COPY_FAULT and the replica-incomplete flag; then
the next copy's first read is presented. An answer of no live copy, or dropped at the port, changes no copy (R17,
R76, R88, R91 to R93). -/
def Obligations.CopyReadsStoreLinesAndEndTheCopy : Prop :=
  (∀ (r : CopyRecord) (rest : List CopyRecord) (q : MemTransaction) (n : Fin 64) (oks errs : List MemAnswer) (data : Line)
    (s : State), MemAnswer.error ∉ oks → MemAnswer.error ∈ errs → s.mem.phase = .busy q .passed → q.owner = .copy ⟨r.buffer, r.seq, r.nextLine⟩ → s.copy.records = r :: rest →
    (∀ p ∈ rest, p.seq ≠ r.seq) → n.val = r.nextLine.val + 1 →
    ∃ mem', mem' = { s.mem with
        phase := .recovery
        engineRequest := some ⟨.lineRead, BitVec.ofNat 26 (r.block.toNat * 1024 + n.val * 16), 0xFFFF, 0,
          .copy ⟨r.buffer, r.seq, n⟩⟩ } ∧
      exec (.lineReadAnswer oks data) s = .next { s with
        mem := mem'
        copy := { s.copy with
          buffers := s.copy.buffers.set r.buffer { s.copy.buffers[r.buffer] with
            lines := s.copy.buffers[r.buffer].lines.set r.nextLine data }
          records := { r with nextLine := n } :: rest
          outstanding := some ⟨r.buffer, r.seq, n⟩ } } ∧
      exec (.lineReadAnswer errs data) s = .next { s with
        mem := mem'
        copy := { s.copy with
          records := { r with nextLine := n, poisoned := true } :: rest
          outstanding := some ⟨r.buffer, r.seq, n⟩ } }) ∧
  ((∀ (r : CopyRecord) (rest : List CopyRecord) (q : MemTransaction) (oks errs : List MemAnswer) (data : Line) (s : State),
    MemAnswer.error ∉ oks → MemAnswer.error ∈ errs → s.mem.phase = .busy q .passed → q.owner = .copy ⟨r.buffer, r.seq, 63⟩ → r.nextLine = 63 →
    s.copy.records = r :: rest → (∀ p ∈ rest, p.seq ≠ r.seq) →
    (r.poisoned = false → exec (.lineReadAnswer oks data) s = .next (presentRead { s with
      mem.phase := .recovery
      journal := s.journal.completeBlock r.seq r.buffer .ready
      copy := { s.copy with
        buffers := s.copy.buffers.set r.buffer { s.copy.buffers[r.buffer] with
          lines := s.copy.buffers[r.buffer].lines.set 63 data }
        records := rest, outstanding := none } })) ∧
    (r.poisoned = true → exec (.lineReadAnswer oks data) s = .next (presentRead { s with
      mem.phase := .recovery
      journal := s.journal.completeBlock r.seq r.buffer .poisoned
      copy := { s.copy with
        buffers := s.copy.buffers.set r.buffer { s.copy.buffers[r.buffer] with
          lines := s.copy.buffers[r.buffer].lines.set 63 data }
        records := rest, outstanding := none, faultBlock := r.block }
      mirror.incomplete := true
      counters := s.counted .copyFaultsOrPoisonedRx, causes := s.raised .copyFault })) ∧
    (exec (.lineReadAnswer errs data) s = .next (presentRead { s with
      mem.phase := .recovery
      journal := s.journal.completeBlock r.seq r.buffer .poisoned
      copy := { s.copy with records := rest, outstanding := none, faultBlock := r.block }
      mirror.incomplete := true
      counters := s.counted .copyFaultsOrPoisonedRx, causes := s.raised .copyFault }))) ∧
  (∀ (j : Journal) (seq : Seq) (b : Fin 4) (st : CopyStatus) (k : Nat) (e : Entry), j.entries[k]? = some e →
    (j.completeBlock seq b st).entries.length = j.entries.length ∧
    (∀ n, e = ⟨seq, e.sentOnce, .block n b .reading⟩ →
      (j.completeBlock seq b st).entries[k]? = some { e with body := .block n b st }) ∧
    ((∀ n, e ≠ ⟨seq, e.sentOnce, .block n b .reading⟩) → (j.completeBlock seq b st).entries[k]? = some e)) ∧
  (∀ s : State, s.copy.outstanding = none →
    (s.copy.records = [] → presentRead s = s) ∧
    (∀ r rest, s.copy.records = r :: rest → presentRead s = { s with
      copy.outstanding := some ⟨r.buffer, r.seq, r.nextLine⟩
      mem := s.memAfterEngine ⟨.lineRead, BitVec.ofNat 26 (r.block.toNat * 1024 + r.nextLine.val * 16), 0xFFFF, 0,
        .copy ⟨r.buffer, r.seq, r.nextLine⟩⟩ })) ∧
  (∀ (id : ReadId) (q : MemTransaction) (beats : List MemAnswer) (data : Line) (s : State), q.owner = .copy id →
    (s.mem.phase = .busy q .passed →
      (∀ r ∈ s.copy.records, ¬ (r.buffer = id.buffer ∧ r.seq = id.seq ∧ r.nextLine = id.line)) →
      exec (.lineReadAnswer beats data) s = .next (presentRead { s with
        mem.phase := .recovery, copy.outstanding := none })) ∧
    (s.mem.phase = .busy q .dropped →
      exec (.lineReadAnswer beats data) s = .next { s with mem.phase := .recovery })))

/-! ### The link line and the receiver -/

/-- At a frame boundary the shifter takes the control frame, else the data frame, else the line stays at mark; the
end of a frame starts the origin's keepalive timer, and its ack timer after a data frame in flight (R126, R142,
R151). That a boundary ends the gap, or the last character of a cut frame, is the model's reading (log 22). A
requested break begins when no frame is on the line, holds it at space, and ends with the line at mark; while a
break is pending or sent, or the link is OFF, no frame boundary comes (R126, R127). That its start ends the gap, or
the last character of a cut frame, is the model's reading (log 22). -/
def Obligations.ShifterTakesControlFrameFirstOrBreak : Prop :=
  (∀ s : State, s.porst = false →
    (s.link.state ≠ .off → s.tx.breakPending = false →
      s.tx.line = .idle ∨ s.tx.line = .gap ∨ s.tx.line = .finishing →
      (∀ f, s.tx.slot = some f → exec .frameBoundary s = .next { s with
        tx.slot := none, tx.line := .sending f
        link.helloTimer := if s.role = .origin ∧ s.link.state = .up then none else s.link.helloTimer }) ∧
      (∀ f, s.tx.slot = none → s.tx.buffer = some f → exec .frameBoundary s = .next { s with
        tx.buffer := none, tx.line := .sending f
        link.helloTimer := if s.role = .origin ∧ s.link.state = .up then none else s.link.helloTimer }) ∧
      (s.tx.slot = none → s.tx.buffer = none → exec .frameBoundary s = .next { s with tx.line := .idle })) ∧
    (∀ f, s.tx.line = .sending f → exec .frameEnd s = .next { s with
      tx.line := .gap
      link.helloTimer := if s.role = .origin ∧ s.link.state = .up then some s.cfg.keepalive.toNat else s.link.helloTimer
      link.ackTimer :=
        if s.role = .origin ∧ s.link.state = .up ∧ f.body.isData = true ∧ 0 < s.journal.sendPoint
        then some s.cfg.ackTimeout.toNat else s.link.ackTimer })) ∧
  (∀ s : State, s.porst = false →
    (s.tx.breakPending = true → s.tx.line = .idle ∨ s.tx.line = .gap ∨ s.tx.line = .finishing →
      exec .breakStart s = .next { s with tx.line := .space, tx.breakPending := false }) ∧
    (s.tx.line = .space → exec .breakEnd s = .next { s with tx.line := .gap }) ∧
    (s.tx.breakPending = true ∨ s.tx.line = .space ∨ s.link.state = .off → exec .frameBoundary s = .next s))

/-- The receiver aligns outside OFF; a framing error or a truncation met by an aligned receiver discards the frame,
counts RX_FRAMING, raises RX_ERROR and leaves it HUNTING; a HUNTING receiver counts none (R129, R131). A run of
space of 64 bit times: in OFF it is not reported, and one unbroken run is reported once. A report finds an aligned
receiver's bad stop bit first, counted RX_FRAMING with RX_ERROR, and leaves the receiver HUNTING; in DOWN and
CONNECTING nothing else comes of it, and in UP the link leaves UP (R131, R135, R156). That the bad stop bit of a
character met while HUNTING begins a new run is the model's reading (log 25). A frame whose four CRC bytes are not
the CRC of its header and payload is discarded, whatever its kind: RX_CRC counts it, RX_ERROR is raised, and
nothing else changes (R123, R132). A WRITE frame of a right CRC whose line address is no multiple of 16 or above
0x3FF_FFF0, and a BLOCK frame of a right CRC whose block number is above 65,535, are framing errors that leave the
receiver aligned: counted RX_FRAMING, with RX_ERROR, and nothing else changes (R131, condition 5). -/
def Obligations.FramingErrorsAndWrongCrcDiscard : Prop :=
  (∀ s : State, s.porst = false →
    (s.link.state ≠ .off → s.rx.phase = .hunting → exec .receiverAlign s = .next { s with
      rx := { s.rx with phase := .between, runReported := false } }) ∧
    (s.aligned →
      (∀ c, isFramingError s.role c = true → exec (.rxFraming c) s = .next { s with
        rx.phase := .hunting, counters := s.counted .rxFraming, causes := s.raised .rxError }) ∧
      exec .rxTruncation s = .next { s with
        rx.phase := .hunting, counters := s.counted .rxFraming, causes := s.raised .rxError }) ∧
    (s.rx.phase = .hunting →
      (∀ c, exec (.rxFraming c) s = .next { s with rx.runReported := s.rx.runReported && decide (c ≠ .badStopBit) }) ∧
      exec .rxTruncation s = .next s)) ∧
  (∀ s : State, s.porst = false →
    (s.link.state = .off ∨ s.rx.runReported = true → exec .breakDetected s = .next s) ∧
    (s.rx.runReported = false →
      (s.link.state = .down ∨ s.link.state = .connecting →
        (s.rx.phase = .hunting → exec .breakDetected s = .next { s with rx.runReported := true }) ∧
        (s.rx.phase ≠ .hunting → exec .breakDetected s = .next { s with
          rx := { s.rx with phase := .hunting, runReported := true }
          counters := s.counted .rxFraming, causes := s.raised .rxError })) ∧
      (s.link.state = .up → ∃ t, exec .breakDetected s = .next t ∧ t.rx.phase = .hunting ∧
        t.rx.runReported = true ∧ t.link.state = (if s.role = .origin then .down else .connecting) ∧
        (s.rx.phase = .hunting → t.counter .rxFraming = s.counter .rxFraming) ∧
        (s.rx.phase ≠ .hunting → t.counter .rxFraming = saturate (s.counter .rxFraming) ∧ t.hasCause .rxError = true)))) ∧
  (∀ (f : Frame) (crc : Word) (s : State), s.porst = false → s.aligned → kindAccepted s.role f.body.code = true →
    crc ≠ crc32 f.covered →
    ∀ c, c = .dataFrameReceived (f.covered ++ leBytes 4 crc.toNat) ∨ c = .helloReceived (f.covered ++ leBytes 4 crc.toNat) ∨
        c = .helloAckReceived (f.covered ++ leBytes 4 crc.toNat) ∨ c = .ackReceived (f.covered ++ leBytes 4 crc.toNat) ∨
        c = .nakReceived (f.covered ++ leBytes 4 crc.toNat) →
      exec c s = .next { s with
        rx.phase := .between, counters := s.counted .rxCrc, causes := s.raised .rxError }) ∧
  (∀ (session : SessionNo) (flags : Byte) (seq : Seq) (field : Word) (rest covered : List Byte) (s : State),
    s.porst = false → s.aligned → s.role = .replica →
    (rest.length = 18 ∧ (field.toNat % 16 ≠ 0 ∨ 0x3FFFFF0 < field.toNat) ∧
        covered = (2#4 ++ session) :: flags :: (leBytes 4 seq.toNat ++ (leBytes 2 22 ++ (leBytes 4 field.toNat ++ rest)))) ∨
      (rest.length = (if flags.getLsbD 0 then 0 else 1024) ∧ 65535 < field.toNat ∧
        covered = (3#4 ++ session) :: flags ::
          (leBytes 4 seq.toNat ++ (leBytes 2 (4 + rest.length) ++ (leBytes 4 field.toNat ++ rest)))) →
    exec (.dataFrameReceived (covered ++ leBytes 4 (crc32 covered).toNat)) s = .next { s with
      rx.phase := .between, counters := s.counted .rxFraming, causes := s.raised .rxError })

/-- The receiver reads back from the bytes of any frame that the layout can carry exactly that frame: kind,
session, flags, seq and payload (the layout of 7.2, R122, R123, R131, R132). A character takes ten bit times:
space, the byte's bits from the least significant, 1 as mark, then mark; its levels read back as the byte, and a
stop bit at space as none. TXD carries a frame's characters back to back and then mark; it rests at mark, in the
gap too, and holds space in a break; a cut frame's line is at mark from the tenth bit time at the latest, and so is
TXD in OFF (R119, R121, R126 to R128; the bits before are log 22's). -/
def Obligations.FrameBytesReadBackWhole : Prop :=
  (∀ (role : Role) (f : Frame), kindAccepted role f.body.code = true → f.wf = true → judgeBytes role f.bytes = .valid f) ∧
  ((∀ b : Byte, (characterLevels b).length = 10 ∧ (characterLevels b)[0]? = some false ∧
    (∀ k, k < 8 → (characterLevels b)[1 + k]? = some (b.getLsbD k)) ∧ (characterLevels b)[9]? = some true ∧
    sampledCharacter (characterLevels b) = some b) ∧
  (∀ levels : List Level, levels[9]? = some false → sampledCharacter levels = none) ∧
  (∀ (f : Frame) (i k : Nat) (b : Byte), f.bytes[i]? = some b → k < 10 →
    (TxLine.sending f).level (10 * i + k) = (characterLevels b)[k]?) ∧
  (∀ (f : Frame) (k : Nat), 10 * f.bytes.length ≤ k → (TxLine.sending f).level k = some true) ∧
  (∀ k : Nat, TxLine.idle.level k = some true ∧ TxLine.gap.level k = some true ∧ TxLine.space.level k = some false) ∧
  (∀ k : Nat, 9 ≤ k → TxLine.finishing.level k = some true) ∧
  (∀ (s : State) (k : Nat), s.linkOk = true → s.link.state = .off → 9 ≤ k → s.tx.line.level k = some true))

/-- A valid data frame or PROBE at the replica takes the next free receive slot, which holds its bytes as received,
or with four occupied is an overrun, counted with RX_ERROR; in both cases a frame of the current session restarts
the silence timer; the bytes of any frame that the layout can carry are such a valid frame (R133, R149). -/
def Obligations.DataFrameTakesSlotOrOverruns : Prop :=
  ∀ (f : Frame) (bytes : List Byte) (s : State), s.porst = false → s.aligned → s.role = .replica →
    (f.wf = true ∧ bytes = f.bytes) ∨ judgeBytes .replica bytes = .valid f →
    f.body.isData = true ∨ f.body = .probe →
    (s.rx.slots.length < 4 → exec (.dataFrameReceived bytes) s = .next { s with
      rx := { s.rx with phase := .between, slots := s.rx.slots ++ [⟨f, bytes⟩] }
      link.silenceTimer := s.silenceAfter f.session }) ∧
    (4 ≤ s.rx.slots.length → exec (.dataFrameReceived bytes) s = .next { s with
      rx.phase := .between, link.silenceTimer := s.silenceAfter f.session
      counters := s.counted .rxOverrun, causes := s.raised .rxError })

/-! ### Sessions -/

/-- A HELLO answered by an idle apply engine: the replica adopts session and seq, empties its slots, restarts its
acknowledgement state and the silence timer, and offers a HELLO_ACK with the fresh flag; a CONNECTING link goes UP
with LINK_UP, and LISTENING becomes APPLYING (R146, R165, R176). An answered HELLO that finds a frame in hand: a
write that waits for its grant is withdrawn and every slot is emptied; a write at memory goes on in ABANDONING with
its slot alone kept, and so does one abandoned before; all else is as with an idle engine (R134, R146, R178). A
HELLO that is not answered: of session 0 where HELLOs are answered it counts PROTOCOL; of another session with the
replica DISABLED or the link DOWN it is discarded without counting (R146). -/
def Obligations.HelloOpensSessionOrIsDiscarded : Prop :=
  (∀ (n : SessionNo) (q : Seq) (s : State), s.porst = false → s.aligned → s.role = .replica → n ≠ 0 →
    s.mirror.replica = .listening ∨ s.mirror.replica = .applying → s.apply.phase = .idle →
    (s.link.state = .connecting → exec (.helloReceived (Frame.mk n q .hello).bytes) s = .next { s with
      link := { s.link with state := .up, session := n, silenceTimer := some s.cfg.silence.toNat }
      apply := { s.apply with expected := q, ackCount := 0, lastNaked := none }
      rx := { s.rx with phase := .between, slots := [] }, tx.slot := some ⟨n, q, .helloAck s.apply.fresh⟩
      mirror.replica := .applying, causes := s.raised .linkUp }) ∧
    (s.link.state = .up → exec (.helloReceived (Frame.mk n q .hello).bytes) s = .next { s with
      link := { s.link with session := n, silenceTimer := some s.cfg.silence.toNat }
      apply := { s.apply with expected := q, ackCount := 0, lastNaked := none }
      rx := { s.rx with phase := .between, slots := [] }, tx.slot := some ⟨n, q, .helloAck s.apply.fresh⟩ })) ∧
  (∀ (n : SessionNo) (q : Seq) (s : State), s.porst = false → s.aligned → s.role = .replica → n ≠ 0 →
    s.mirror.replica = .listening ∨ s.mirror.replica = .applying → s.apply.phase = .writing ∨ s.apply.phase = .abandoning →
    s.link.state = .connecting ∨ s.link.state = .up →
    ∃ u : State, u = { s with
        link := { s.link with state := .up, session := n, silenceTimer := some s.cfg.silence.toNat }
        apply := { s.apply with expected := q, ackCount := 0, lastNaked := none }
        rx.phase := .between, tx.slot := some ⟨n, q, .helloAck s.apply.fresh⟩
        mirror.replica := if s.link.state = .connecting then .applying else s.mirror.replica
        causes := if s.link.state = .connecting then s.raised .linkUp else s.causes } ∧
      (s.apply.phase = .writing → s.mem.engineRequest.isSome = true →
        exec (.helloReceived (Frame.mk n q .hello).bytes) s = .next { u with
          rx.slots := [], apply.phase := .idle, mem.engineRequest := none }) ∧
      (s.apply.phase = .abandoning ∨ s.mem.engineRequest = none →
        exec (.helloReceived (Frame.mk n q .hello).bytes) s = .next { u with
          rx.slots := s.rx.slots.take 1, apply.phase := .abandoning })) ∧
  (∀ (n : SessionNo) (q : Seq) (s : State), s.porst = false → s.aligned → s.role = .replica →
    (n = 0 → s.mirror.replica ≠ .disabled → s.link.state = .connecting ∨ s.link.state = .up →
      exec (.helloReceived (Frame.mk n q .hello).bytes) s = .next { s with
        rx.phase := .between, counters := s.counted .protocol }) ∧
    (n ≠ 0 → s.mirror.replica = .disabled ∨ s.link.state = .down →
      exec (.helloReceived (Frame.mk n q .hello).bytes) s = .next { s with rx.phase := .between }))

/-- A matching HELLO_ACK in CONNECTING takes the origin to UP with its timers and LINK_UP, dropping a HELLO not yet
sent; a TRACKING origin, seeded first for a fresh partner, goes to RESYNCING with blocks dirty, else to SYNCED with
SYNCED raised; a DISABLED one stays (R100, R144, R145). A HELLO_ACK that matches nothing is counted RX_STALE: in
CONNECTING with another session or seq, in UP with another session, and in DOWN. In UP one of the current session
only restarts the silence timer (R141, R144). -/
def Obligations.HelloAckBringsLinkUpOrIsStale : Prop :=
  (∀ (fresh : Bool) (s : State), s.porst = false → s.aligned → s.role = .origin → s.link.state = .connecting →
    ∃ u : State, u = { s with
        rx.phase := .between
        tx.slot := match s.tx.slot with
          | some ⟨_, _, .hello⟩ => none
          | other => other
        link := { s.link with
          state := .up, helloTimer := some s.cfg.keepalive.toNat, silenceTimer := some s.cfg.silence.toNat
          ackTimer := none, timeouts := 0, partnerFresh := fresh }
        causes := s.raised .linkUp } ∧
    (s.mirror.state = .disabled →
      exec (.helloAckReceived (Frame.mk s.link.session s.journal.nextSeq (.helloAck fresh)).bytes) s = .next u) ∧
    (s.mirror.state = .tracking →
      (fresh = false → 0 < s.dirty.count →
        exec (.helloAckReceived (Frame.mk s.link.session s.journal.nextSeq (.helloAck fresh)).bytes) s =
          .next (examineCopy { u with mirror.state := .resyncing })) ∧
      (fresh = false → s.dirty.count = 0 →
        exec (.helloAckReceived (Frame.mk s.link.session s.journal.nextSeq (.helloAck fresh)).bytes) s =
          .next { u with mirror.state := .synced, causes := u.raised .synced }) ∧
      (fresh = true → 0 < (s.dirty.seed s.regions.toList).count →
        exec (.helloAckReceived (Frame.mk s.link.session s.journal.nextSeq (.helloAck fresh)).bytes) s =
          .next (examineCopy { u with
            mirror := { s.mirror with incomplete := false, state := .resyncing }
            dirty := s.dirty.seed s.regions.toList })) ∧
      (fresh = true → (s.dirty.seed s.regions.toList).count = 0 →
        exec (.helloAckReceived (Frame.mk s.link.session s.journal.nextSeq (.helloAck fresh)).bytes) s =
          .next { u with
            mirror := { s.mirror with incomplete := false, state := .synced }
            dirty := s.dirty.seed s.regions.toList, causes := u.raised .synced }))) ∧
  (∀ (n : SessionNo) (q : Seq) (fresh : Bool) (s : State), s.porst = false → s.aligned → s.role = .origin →
    ((s.link.state = .connecting ∧ (n ≠ s.link.session ∨ q ≠ s.journal.nextSeq)) ∨
        (s.link.state = .up ∧ n ≠ s.link.session) ∨ s.link.state = .down →
      exec (.helloAckReceived (Frame.mk n q (.helloAck fresh)).bytes) s = .next { s with
        rx.phase := .between, counters := s.counted .rxStale }) ∧
    (s.link.state = .up → n = s.link.session →
      exec (.helloAckReceived (Frame.mk n q (.helloAck fresh)).bytes) s = .next { s with
        rx.phase := .between, link.silenceTimer := some s.cfg.silence.toNat }))

/-- An ACK or NAK outside UP, or of another session, is RX_STALE; one of the session out of range is PROTOCOL, with
its fault flag and the silence timer taken all the same (R109, R149, R152, R153). An ACK in range acknowledges
through its seq: the removed entries' buffers become FREE, their marks go to the mirror controller, capture has its
report, the ack timer restarts or stops and the timeout count is 0; with nothing removed the journal keeps its
entries. The fault flag and the silence timer are taken (R21, R22, R109, R149, R151, R152). A NAK in range whose
predecessors are all acknowledged already rewinds to its seq: a send point that moves back empties the holding
buffer, and an in-flight count of 0 stops the ack timer. One that removes entries is first an acknowledge-through:
their buffers FREE, their marks and capture's report handed over, the timeout count 0 and the ack timer restarted,
and then the rewind. Fault flag and silence timer are taken (R21 to R23, R109, R149, R151, R153, R154). -/
def Obligations.AckAndNakActWithinRange : Prop :=
  (∀ (n : SessionNo) (q : Seq) (fault : Bool) (s : State), s.porst = false → s.aligned → s.role = .origin →
    (s.link.state ≠ .up ∨ n ≠ s.link.session → ∀ c,
      c = .ackReceived (Frame.mk n q (.ack fault)).bytes ∨ c = .nakReceived (Frame.mk n q (.nak fault)).bytes →
      exec c s = .next { s with rx.phase := .between, counters := s.counted .rxStale }) ∧
    (s.link.state = .up → n = s.link.session → ∀ c,
      (c = .ackReceived (Frame.mk n q (.ack fault)).bytes ∧
          ¬ (atOrBefore (s.journal.headSeq - 1) q = true ∧ atOrBefore q s.journal.sentLimit = true)) ∨
        (c = .nakReceived (Frame.mk n q (.nak fault)).bytes ∧
          ¬ (atOrBefore s.journal.headSeq q = true ∧ atOrBefore q (s.journal.sentLimit + 1) = true)) →
      exec c s = .next { s with
        rx.phase := .between, link.silenceTimer := some s.cfg.silence.toNat
        mirror.incomplete := s.mirror.incomplete || fault
        causes := if fault then s.raised .replicaFault else s.causes
        counters := s.counted .protocol })) ∧
  (∀ (q : Seq) (fault : Bool) (s : State), s.porst = false → s.aligned → s.role = .origin → s.link.state = .up →
    atOrBefore (s.journal.headSeq - 1) q = true → atOrBefore q s.journal.sentLimit = true →
    ∃ u : State, u = { s with
        rx.phase := .between, link.silenceTimer := some s.cfg.silence.toNat
        mirror.incomplete := s.mirror.incomplete || fault
        causes := if fault then s.raised .replicaFault else s.causes } ∧
    (s.journal.removedBy q = [] →
      exec (.ackReceived (Frame.mk s.link.session q (.ack fault)).bytes) s = .next u) ∧
    (s.journal.removedBy q ≠ [] →
      exec (.ackReceived (Frame.mk s.link.session q (.ack fault)).bytes) s = .next (examineCopy { u with
        journal := s.journal.acknowledged q
        copy := s.copy.freeBuffersOf (s.journal.removedBy q)
        reports := { s.reports with
          mirrorAcks := s.reports.mirrorAcks ++ [(s.journal.removedBy q).filterMap fun e => match e.body with
            | .mark number _ drain => some ⟨e.seq, number, drain⟩
            | _ => none]
          captureAcks := s.reports.captureAcks + 1 }
        link := { u.link with
          ackTimer := if 0 < (s.journal.acknowledged q).sendPoint then some s.cfg.ackTimeout.toNat else none
          timeouts := 0 } }))) ∧
  (∀ (q : Seq) (fault : Bool) (s : State), s.porst = false → s.aligned → s.role = .origin → s.link.state = .up →
    atOrBefore s.journal.headSeq q = true → atOrBefore q (s.journal.sentLimit + 1) = true →
    (s.journal.removedBy (q - 1) = [] →
      exec (.nakReceived (Frame.mk s.link.session q (.nak fault)).bytes) s = .next { s with
        rx.phase := .between
        link := { s.link with
          silenceTimer := some s.cfg.silence.toNat
          ackTimer := if min (s.journal.rewindPoint q) s.journal.sendPoint = 0 then none else s.link.ackTimer }
        mirror.incomplete := s.mirror.incomplete || fault
        causes := if fault then s.raised .replicaFault else s.causes
        journal.sendPoint := min (s.journal.rewindPoint q) s.journal.sendPoint
        tx.buffer := if s.journal.rewindPoint q < s.journal.sendPoint then none else s.tx.buffer }) ∧
    (∃ t, exec (.nakReceived (Frame.mk s.link.session q (.nak fault)).bytes) s = .next t ∧
      t.journal = { s.journal.acknowledged (q - 1) with
        sendPoint := min ((s.journal.acknowledged (q - 1)).rewindPoint q) (s.journal.acknowledged (q - 1)).sendPoint } ∧
      t.copy.buffers = (s.copy.freeBuffersOf (s.journal.removedBy (q - 1))).buffers ∧
      t.dirty = s.dirty ∧ t.mirror.state = s.mirror.state ∧ t.counters = s.counters) ∧
    (s.journal.removedBy (q - 1) ≠ [] → ∃ j point, j = s.journal.acknowledged (q - 1) ∧
      point = min (j.rewindPoint q) j.sendPoint ∧
      ∃ t, exec (.nakReceived (Frame.mk s.link.session q (.nak fault)).bytes) s = .next t ∧
        t = { s with
          rx.phase := .between, journal := { j with sendPoint := point }
          copy := { s.copy.freeBuffersOf (s.journal.removedBy (q - 1)) with pendingStart := t.copy.pendingStart }
          reports := { s.reports with
            mirrorAcks := s.reports.mirrorAcks ++ [(s.journal.removedBy (q - 1)).filterMap fun e => match e.body with
              | .mark number _ drain => some ⟨e.seq, number, drain⟩
              | _ => none]
            captureAcks := s.reports.captureAcks + 1 }
          link := { s.link with
            silenceTimer := some s.cfg.silence.toNat, timeouts := 0
            ackTimer := if point = 0 then none else some s.cfg.ackTimeout.toNat }
          tx.buffer := if j.rewindPoint q < j.sendPoint then none else s.tx.buffer
          mirror.incomplete := s.mirror.incomplete || fault
          causes := if fault then s.raised .replicaFault else s.causes } ∧
        (s.copy.pendingStart = true → t.copy.pendingStart = true)))

/-- The hello/keepalive timer of the origin: in DOWN its expiry opens CONNECTING with the next session number, in
CONNECTING it offers a HELLO again, in UP a PROBE with seq 0 (R139, R142, R143, R148). The ack timer's expiry below
the retry limit: rewind to the head, ACK_TIMEOUTS and the consecutive count one higher, the timer stopped, the link
still UP (R23, R154). -/
def Obligations.KeepaliveAndAckTimersExpire : Prop :=
  ((∀ s : State, s.porst = false → s.link.helloTimer.isSome = true →
    (s.link.state = .down → exec .helloKeepaliveTimerExpiry s = .next { s with
      link := { s.link with
        state := .connecting, session := nextSession s.link.session, helloTimer := some s.cfg.keepalive.toNat }
      tx.slot := some ⟨nextSession s.link.session, s.journal.nextSeq, .hello⟩ }) ∧
    (s.link.state = .connecting → exec .helloKeepaliveTimerExpiry s = .next { s with
      link.helloTimer := some s.cfg.keepalive.toNat
      tx.slot := some ⟨s.link.session, s.journal.nextSeq, .hello⟩ }) ∧
    (s.link.state = .up → exec .helloKeepaliveTimerExpiry s = .next { s with
      link.helloTimer := none, tx.slot := some ⟨s.link.session, 0, .probe⟩ })) ∧
  (∀ n : SessionNo, (nextSession n).toNat = if n.toNat = 15 then 1 else n.toNat + 1)) ∧
  (∀ s : State, s.porst = false → s.link.ackTimer.isSome = true → s.link.state = .up → s.journal.wf = true →
    s.link.timeouts + 1 < s.cfg.retryLimit.toNat →
    exec .ackTimerExpiry s = .next { s with
      journal.sendPoint := 0
      tx.buffer := if 0 < s.journal.sendPoint then none else s.tx.buffer
      link := { s.link with ackTimer := none, timeouts := s.link.timeouts + 1 }
      counters := s.counted .ackTimeouts })

/-- The origin leaves UP in RESYNCING or SYNCED, by silence, by the last ack timeout, by a break, by LINK_RESET or
by the clearing of the link enable: the journal is spilled, so that every block it named is dirty; a held write is
marked and completed OK; copies, the mark request and the drain are given up, the last with DRAIN_FAILED; the state
is TRACKING; LINK_DOWN is counted and raised; no mark is reported. The last ack timeout and LINK_RESET request a
break, which cuts a frame on the line; silence and a break leave line and break alone; the link enable puts the
line at rest (R25, R56, R94, R103, R116, R127, R128, R141, R156, R158). That a drain fails whose MARK is
acknowledged but not yet reported is the model's choice (log 32), and that a pacing timer is stopped from SYNCED
too (log 33). -/
def Obligations.OriginLinkLossSpillsEverything : Prop :=
  ∀ (c : Instr) (s : State), s.porst = false → s.role = .origin → s.link.state = .up →
    s.mirror.state = .resyncing ∨ s.mirror.state = .synced →
    ((c = .silenceTimerExpiry ∧ s.link.silenceTimer.isSome = true) ∨
      (c = .ackTimerExpiry ∧ s.link.ackTimer.isSome = true ∧ s.cfg.retryLimit.toNat ≤ s.link.timeouts + 1) ∨
      (c = .breakDetected ∧ s.rx.runReported = false) ∨
      (s.portReady ∧ (c = .linkReset ∨ c = .controlLinkEnable false))) →
    ∃ t, exec c s = .next t ∧ t.mirror.state = .tracking ∧
      (c = .ackTimerExpiry ∨ c = .linkReset →
        t.tx.line = (match s.tx.line with
          | .sending _ => .finishing
          | other => other) ∧
        (s.tx.line ≠ .space → t.tx.breakPending = true) ∧
        (s.tx.line = .space → t.tx.breakPending = s.tx.breakPending)) ∧
      (c = .silenceTimerExpiry ∨ c = .breakDetected →
        t.tx.line = s.tx.line ∧ t.tx.breakPending = s.tx.breakPending) ∧
      (c = .controlLinkEnable false → t.tx.breakPending = false ∧
        t.tx.line = (match s.tx.line with
          | .sending _ => .finishing
          | .space => .gap
          | other => other)) ∧
      t.link.state = (if c = .controlLinkEnable false then .off else .down) ∧
      t.journal = ⟨[], 0, s.journal.nextSeq, s.journal.lastAcked⟩ ∧
      (∀ b, b ∈ t.dirty.blocks ↔ b ∈ s.dirty.blocks ∨
        (∃ e ∈ s.journal.entries, (∃ l m d, e.body = .write l m d ∧ blockOf l = b) ∨ ∃ i st, e.body = .block b i st) ∨
        ∃ w, s.sys.phase = .held w ∧ blockOf w.address = b) ∧
      t.copy.records = [] ∧ t.copy.pacingTimer = none ∧ t.mem.engineRequest = none ∧
      t.mirror.pendingMark = none ∧ t.mirror.drain = .clear ∧
      (s.mirror.drain ≠ .clear → t.hasCause .drainFailed = true) ∧ t.hasCause .linkDown = true ∧
      t.counter .linkDowns = saturate (s.counter .linkDowns) ∧
      (∀ w, s.sys.phase = .held w → t.sys = ⟨.complete w .ok 0, none⟩) ∧
      ((∀ w, s.sys.phase ≠ .held w) → t.sys = s.sys) ∧ t.tx.slot = none ∧ t.tx.buffer = none ∧
      t.link.silenceTimer = none ∧ t.link.ackTimer = none ∧ t.link.timeouts = 0 ∧ t.link.session = s.link.session ∧
      t.reports = s.reports ∧ t.mirror.incomplete = s.mirror.incomplete ∧ t.mirror.lastIssued = s.mirror.lastIssued ∧
      t.mirror.lastAckedMark = s.mirror.lastAckedMark ∧ t.copy.paused = s.copy.paused ∧
      (s.buffersOk = true → ∀ i : Fin 4, t.copy.buffers[i].owner = none)

/-- An APPLYING replica leaves UP by silence, by a break, by LINK_RESET or by the clearing of the link enable: its
state is LISTENING, the session 0, its slots flushed and the frame in hand abandoned, the flags and the expected
value kept; LINK_DOWN is counted and raised. LINK_RESET requests a break, which cuts a frame on the line; silence
and a break leave line and break alone; the link enable puts the line at rest (R127, R128, R139, R141, R156, R160,
R166, R178). -/
def Obligations.ReplicaLeavingUpKeepsItsFlags : Prop :=
  ∀ (c : Instr) (s : State), s.porst = false → s.role = .replica → s.link.state = .up → s.mirror.replica = .applying →
    ((c = .silenceTimerExpiry ∧ s.link.silenceTimer.isSome = true) ∨
      (c = .breakDetected ∧ s.rx.runReported = false) ∨
      (s.portReady ∧ (c = .linkReset ∨ c = .controlLinkEnable false))) →
    ∃ t, exec c s = .next t ∧
      (c = .linkReset →
        t.tx.line = (match s.tx.line with
          | .sending _ => .finishing
          | other => other) ∧
        (s.tx.line ≠ .space → t.tx.breakPending = true) ∧
        (s.tx.line = .space → t.tx.breakPending = s.tx.breakPending)) ∧
      (c = .silenceTimerExpiry ∨ c = .breakDetected →
        t.tx.line = s.tx.line ∧ t.tx.breakPending = s.tx.breakPending) ∧
      (c = .controlLinkEnable false → t.tx.breakPending = false ∧
        t.tx.line = (match s.tx.line with
          | .sending _ => .finishing
          | .space => .gap
          | other => other)) ∧ t.mirror.replica = .listening ∧ t.link.session = 0 ∧
      t.link.state = (if c = .controlLinkEnable false then .off else .connecting) ∧
      t.link.silenceTimer = none ∧ t.tx.slot = none ∧
      (s.apply.phase = .idle → t.rx.slots = [] ∧ t.apply = s.apply ∧ t.mem = s.mem) ∧
      (s.apply.phase = .writing → s.mem.engineRequest.isSome = true → t.apply.phase = .idle ∧ t.rx.slots = [] ∧
        t.mem = { s.mem with engineRequest := none }) ∧
      (s.apply.phase = .writing → s.mem.engineRequest = none → t.apply.phase = .abandoning ∧ t.mem = s.mem ∧
        t.rx.slots = s.rx.slots.take 1) ∧
      t.apply.coherent = s.apply.coherent ∧ t.apply.fresh = s.apply.fresh ∧ t.apply.fault = s.apply.fault ∧
      t.apply.expected = s.apply.expected ∧ t.hasCause .linkDown = true ∧
      t.counter .linkDowns = saturate (s.counter .linkDowns) ∧ t.sys = s.sys

/-! ### The apply engine -/

/-- The verdicts that apply nothing: a frame of another session, or any with no session, is stale; a PROBE is
answered with an ACK for expected − 1; a duplicate is counted and re-ACKed; a gap draws one NAK for each expected
value; an unordered frame counts PROTOCOL. Each releases its slot (R168, R174, R175, R176). -/
def Obligations.FramesNotNextInLineAreReleased : Prop :=
  (∀ (f : Frame) (raw : List Byte) (rest : List Slot) (s : State), s.porst = false → s.role = .replica → s.apply.phase = .idle →
    s.rx.slots = ⟨f, raw⟩ :: rest →
    (f.session ≠ s.link.session ∨ s.link.session = 0 →
      exec .applyTakeFrame s = .next { s with rx.slots := rest, counters := s.counted .rxStale }) ∧
    (f.session = s.link.session → s.link.session ≠ 0 → s.link.state ≠ .off →
      ∃ ack nak : State,
        ack = { s with
          rx.slots := rest
          apply := { s.apply with ackCount := 0, lastAckSent := s.apply.expected - 1 }
          tx.slot := offeredSlot s.tx.slot ⟨s.link.session, s.apply.expected - 1, .ack s.apply.fault⟩ } ∧
        nak = { s with
          rx.slots := rest
          apply := { s.apply with ackCount := 0, lastNaked := some s.apply.expected }
          tx.slot := offeredSlot s.tx.slot ⟨s.link.session, s.apply.expected, .nak s.apply.fault⟩ } ∧
        (f.body = .probe → exec .applyTakeFrame s = .next ack) ∧
        (f.body.isData = true →
          (precedes f.seq s.apply.expected = true →
            exec .applyTakeFrame s = .next { ack with counters := s.counted .rxStale }) ∧
          (precedes s.apply.expected f.seq = true →
            (s.apply.lastNaked ≠ some s.apply.expected → exec .applyTakeFrame s = .next nak) ∧
            (s.apply.lastNaked = some s.apply.expected → exec .applyTakeFrame s = .next { s with rx.slots := rest })) ∧
          (f.seq ≠ s.apply.expected → precedes f.seq s.apply.expected = false → precedes s.apply.expected f.seq = false →
            exec .applyTakeFrame s = .next { s with rx.slots := rest, counters := s.counted .protocol })))) ∧
  (∀ (slot : Option Frame) (g : Frame),
    ((∃ n q fresh, slot = some ⟨n, q, .helloAck fresh⟩) → (∃ fault, g.body = .ack fault ∨ g.body = .nak fault) →
      offeredSlot slot g = slot) ∧
    (¬ ((∃ n q fresh, slot = some ⟨n, q, .helloAck fresh⟩) ∧ ∃ fault, g.body = .ack fault ∨ g.body = .nak fault) →
      offeredSlot slot g = some g))

/-- A MARK next in line is applied in one step without a memory write: the last applied mark takes its number; with
the consistent flag and no apply fault the coherent flag is set and the last consistent mark takes it too, and
otherwise the coherent flag is cleared; the apply ends: expected advances, fresh is cleared, the slot is released,
the count rises and an ACK goes out at the ack-every value or with no frame waiting (R172, R173). -/
def Obligations.MarkNextInLineIsApplied : Prop :=
  ∀ (f : Frame) (number : MarkNo) (c d : Bool) (raw : List Byte) (rest : List Slot) (s : State), s.porst = false → s.role = .replica →
    s.apply.phase = .idle → s.rx.slots = ⟨f, raw⟩ :: rest → f.session = s.link.session → s.link.session ≠ 0 →
    s.link.state ≠ .off → f.seq = s.apply.expected → f.body = .mark number c d →
    ∃ u : State, u = { s with
        rx.slots := rest
        apply := { s.apply with
          lastMark := number, coherent := c && !s.apply.fault
          lastConsistent := if c = true ∧ s.apply.fault = false then number else s.apply.lastConsistent
          expected := s.apply.expected + 1, fresh := false, ackCount := s.apply.ackCount + 1 } } ∧
      (s.apply.ackCount + 1 < s.cfg.ackEvery.toNat → rest ≠ [] → exec .applyTakeFrame s = .next u) ∧
      (s.cfg.ackEvery.toNat ≤ s.apply.ackCount + 1 ∨ rest = [] → exec .applyTakeFrame s = .next { u with
        apply := { u.apply with ackCount := 0, lastAckSent := s.apply.expected }
        tx.slot := offeredSlot s.tx.slot ⟨s.link.session, s.apply.expected, .ack s.apply.fault⟩ })

/-- A poisoned BLOCK next in line is applied in one step without a memory write: POISONED_RX counts it, the
coherent flag is cleared, no cause is raised, and the apply ends as for any frame (R171, R173). -/
def Obligations.PoisonedBlockNextInLineIsApplied : Prop :=
  ∀ (f : Frame) (number : Block) (raw : List Byte) (rest : List Slot) (s : State), s.porst = false → s.role = .replica →
    s.apply.phase = .idle → s.rx.slots = ⟨f, raw⟩ :: rest → f.session = s.link.session → s.link.session ≠ 0 →
    s.link.state ≠ .off → f.seq = s.apply.expected → f.body = .poisoned number →
    ∃ u : State, u = { s with
        rx.slots := rest, counters := s.counted .copyFaultsOrPoisonedRx
        apply := { s.apply with
          coherent := false, expected := s.apply.expected + 1, fresh := false, ackCount := s.apply.ackCount + 1 } } ∧
      (s.apply.ackCount + 1 < s.cfg.ackEvery.toNat → rest ≠ [] → exec .applyTakeFrame s = .next u) ∧
      (s.cfg.ackEvery.toNat ≤ s.apply.ackCount + 1 ∨ rest = [] → exec .applyTakeFrame s = .next { u with
        apply := { u.apply with ackCount := 0, lastAckSent := s.apply.expected }
        tx.slot := offeredSlot s.tx.slot ⟨s.link.session, s.apply.expected, .ack s.apply.fault⟩ })

/-- A WRITE or a READY BLOCK next in line puts the engine in WRITING with line 0 and presents its first LINE WRITE,
the WRITE's own line under its mask, or line 0 of the block under a full mask, whatever the region table says; a
BLOCK clears the coherent flag first. The frame stays in its slot (R134, R169, R170). -/
def Obligations.ApplyBeginsWithFirstLineWrite : Prop :=
  ∀ (f : Frame) (raw : List Byte) (rest : List Slot) (s : State), s.porst = false → s.role = .replica →
    s.apply.phase = .idle → s.rx.slots = ⟨f, raw⟩ :: rest → f.session = s.link.session → s.link.session ≠ 0 →
    f.seq = s.apply.expected →
    (∀ line mask data, f.body = .write line mask data → exec .applyTakeFrame s = .next { s with
      apply := { s.apply with phase := .writing, nextLine := 0 }
      mem := s.memAfterEngine ⟨.lineWrite, line, mask, data, .apply f.seq 0⟩ }) ∧
    (∀ number lines, f.body = .block number lines → exec .applyTakeFrame s = .next { s with
      apply := { s.apply with phase := .writing, nextLine := 0, coherent := false }
      mem := s.memAfterEngine ⟨.lineWrite, BitVec.ofNat 26 (number.toNat * 1024), 0xFFFF, lines[0], .apply f.seq 0⟩ })

/-- Memory's answer of an apply write: an ERROR on any beat counts APPLY_FAULTS, sets the apply-fault flag and
clears the coherent flag; after it or an OK a BLOCK presents its next line, and the last line or a WRITE ends the
apply; in ABANDONING the slot is released and nothing advances, and in DISABLED the fault flag stays clear. An
answer dropped at the port changes nothing of the engine (R67, R76, R170, R173, R177, R178). -/
def Obligations.ApplyAnswerAdvancesOrEnds : Prop :=
  (∀ (q : MemTransaction) (a : Seq) (i : Fin 64) (beats : List MemAnswer) (s : State), s.mem.phase = .busy q .dropped →
    q.owner = .apply a i → exec (.applyWriteAnswer beats) s = .next { s with mem.phase := .recovery }) ∧
  ∀ (f : Frame) (raw : List Byte) (rest : List Slot) (q : MemTransaction) (a : Seq) (i : Fin 64) (beats : List MemAnswer)
    (answer : MemAnswer) (s : State), answer = (if MemAnswer.error ∈ beats then .error else .ok) →
    s.mem.phase = .busy q .passed → q.owner = .apply a i → s.rx.slots = ⟨f, raw⟩ :: rest →
    ∃ u : State, u = { s with
        mem.phase := .recovery
        counters := if answer = .error then s.counted .applyFaults else s.counters
        apply := { s.apply with
          coherent := if answer = .error then false else s.apply.coherent
          fault := if answer = .error ∧ s.mirror.replica ≠ .disabled then true else s.apply.fault } } ∧
      (s.apply.phase = .writing →
        (∀ (number : Block) (lines : Vector Line 64) (n : Fin 64), f.body = .block number lines →
          n.val = s.apply.nextLine.val + 1 → exec (.applyWriteAnswer beats) s = .next { u with
            apply.nextLine := n
            mem.engineRequest := some ⟨.lineWrite, BitVec.ofNat 26 (number.toNat * 1024 + n.val * 16), 0xFFFF,
              lines[n], .apply f.seq n⟩ }) ∧
        ((∃ line mask data, f.body = .write line mask data) ∨
            (s.apply.nextLine = 63 ∧ ∃ number lines, f.body = .block number lines) →
          (s.apply.ackCount + 1 < s.cfg.ackEvery.toNat → rest ≠ [] →
            exec (.applyWriteAnswer beats) s = .next { u with
              rx.slots := rest
              apply := { u.apply with
                phase := .idle, expected := s.apply.expected + 1, fresh := false
                ackCount := s.apply.ackCount + 1 } }) ∧
          (s.cfg.ackEvery.toNat ≤ s.apply.ackCount + 1 ∨ rest = [] → s.link.state ≠ .off →
            exec (.applyWriteAnswer beats) s = .next { u with
              rx.slots := rest
              apply := { u.apply with
                phase := .idle, expected := s.apply.expected + 1, fresh := false, ackCount := 0
                lastAckSent := s.apply.expected }
              tx.slot := offeredSlot s.tx.slot ⟨s.link.session, s.apply.expected, .ack u.apply.fault⟩ }))) ∧
      (s.apply.phase = .abandoning → exec (.applyWriteAnswer beats) s = .next { u with
        rx.slots := rest, apply.phase := .idle })

/-! ### Commands of the service port -/

/-- START of a DISABLED origin seeds the map, clears replica-incomplete and goes to TRACKING; with the link UP a
new session is opened without a break: the next number, a HELLO, the UP timers stopped, no LINK_DOWN (R99, R143,
R159). START of a DISABLED replica begins LISTENING with fresh set, coherent and apply-fault clear and the
acknowledgement state at its start; a mirrored write that waits for the memory port is fenced in the same step
(R60, R163). -/
def Obligations.StartSeedsOriginOrOpensReplica : Prop :=
  (∀ s : State, s.porst = false → s.portReady → s.role = .origin → s.mirror.state = .disabled →
    (s.link.state ≠ .up → exec .start s = .next { s with
      sp := s.answered .accepted, dirty := s.dirty.seed s.regions.toList
      mirror := { s.mirror with incomplete := false, state := .tracking } }) ∧
    (s.link.state = .up → exec .start s = .next { s with
      sp := s.answered .accepted, dirty := s.dirty.seed s.regions.toList
      mirror := { s.mirror with incomplete := false, state := .tracking }
      link := { s.link with
        state := .connecting, session := nextSession s.link.session
        helloTimer := some s.cfg.keepalive.toNat, silenceTimer := none, ackTimer := none, timeouts := 0 }
      tx := { s.tx with
        buffer := none, slot := some ⟨nextSession s.link.session, s.journal.nextSeq, .hello⟩ } })) ∧
  (∀ s : State, s.porst = false → s.portReady → s.role = .replica → s.mirror.replica = .disabled →
    ∃ u : State, u = { s with
        sp := s.answered .accepted, mirror.replica := .listening
        apply := { s.apply with fresh := true, coherent := false, fault := false, ackCount := 0, lastNaked := none } } ∧
      ((∀ t, s.sys.phase ≠ .atMemory t) → exec .start s = .next u) ∧
      (∀ t, s.sys.phase = .atMemory t → s.mem.systemRequest.isSome = true → t.kind.isWrite = true →
        s.mirrored t.address = true → exec .start s = .next { u with
          sys.phase := .complete { t with lookup := some true } .fenced 0
          mem.systemRequest := none, counters := s.counted .fenced, causes := s.raised .fence }) ∧
      (∀ t, s.sys.phase = .atMemory t → s.mem.systemRequest.isSome = true → t.kind.isWrite = true →
        s.mirrored t.address = false → exec .start s = .next { u with
          sys.phase := .atMemory { t with lookup := some false } }) ∧
      (∀ t, s.sys.phase = .atMemory t → s.mem.systemRequest = none ∨ t.kind.isWrite = false →
        exec .start s = .next u))

/-- STOP of an origin that is not DISABLED discards the journal and frees its buffers, clears the map, abandons the
copies and the pause, completes a held write OK unmarked, cancels a mark request, fails a drain with DRAIN_FAILED,
sets DRAINED low and the state DISABLED; an UP link opens a new session without LINK_DOWN (R27, R57, R95, R104,
R159). That a drain fails whose MARK is acknowledged but not yet reported is the model's choice (log 32). STOP of a
LISTENING or APPLYING replica ends fencing, flushes the slots, abandons a frame, clears the apply-fault flag and
keeps the other flags; an UP link goes to CONNECTING with session 0 and no LINK_DOWN (R147, R164, R178). -/
def Obligations.StopDiscardsOriginOrEndsReplica : Prop :=
  (∀ s : State, s.porst = false → s.portReady → s.role = .origin → s.mirror.state ≠ .disabled →
    ∃ t, exec .stop s = .next t ∧ t.sp = s.answered .accepted ∧
      t.journal = ⟨[], 0, s.journal.nextSeq, s.journal.lastAcked⟩ ∧ t.dirty = ⟨[], 0, 0⟩ ∧
      t.copy.records = [] ∧ t.copy.pacingTimer = none ∧ t.copy.paused = false ∧ t.mem.engineRequest = none ∧
      t.mirror = { s.mirror with state := .disabled, pendingMark := none, drain := .clear, drained := false } ∧
      t.causes = (if s.mirror.drain = .clear then s.causes else s.raised .drainFailed) ∧
      (∀ w, s.sys.phase = .held w → t.sys = ⟨.complete w .ok 0, none⟩) ∧
      ((∀ w, s.sys.phase ≠ .held w) → t.sys = s.sys) ∧ t.tx.buffer = none ∧ t.counters = s.counters ∧
      t.reports = s.reports ∧
      (s.link.state = .up → t.link.state = .connecting ∧ t.link.session = nextSession s.link.session ∧
        t.tx.slot = some ⟨nextSession s.link.session, s.journal.nextSeq, .hello⟩) ∧
      (s.link.state ≠ .up → t.link = s.link ∧ t.tx.slot = s.tx.slot) ∧
      (s.buffersOk = true → ∀ i : Fin 4, t.copy.buffers[i].owner = none)) ∧
  (∀ s : State, s.porst = false → s.portReady → s.role = .replica → s.mirror.replica = .listening ∨ s.mirror.replica = .applying →
    ∃ t, exec .stop s = .next t ∧ t.sp = s.answered .accepted ∧ t.mirror = { s.mirror with replica := .disabled } ∧
      t.apply.fault = false ∧ t.apply.coherent = s.apply.coherent ∧ t.apply.fresh = s.apply.fresh ∧
      t.apply.expected = s.apply.expected ∧ t.apply.lastMark = s.apply.lastMark ∧
      t.apply.lastConsistent = s.apply.lastConsistent ∧ t.causes = s.causes ∧ t.counters = s.counters ∧ t.sys = s.sys ∧
      (s.apply.phase = .idle → t.rx.slots = [] ∧ t.mem = s.mem ∧ t.apply.phase = .idle) ∧
      (s.apply.phase = .writing → s.mem.engineRequest.isSome = true → t.rx.slots = [] ∧ t.apply.phase = .idle ∧
        t.mem = { s.mem with engineRequest := none }) ∧
      (s.apply.phase = .writing → s.mem.engineRequest = none → t.rx.slots = s.rx.slots.take 1 ∧
        t.apply.phase = .abandoning ∧ t.mem = s.mem) ∧
      (s.link.state = .up → t.link.state = .connecting ∧ t.link.session = 0 ∧ t.link.silenceTimer = none) ∧
      (s.link.state ≠ .up → t.link = s.link))

/-- RESEED seeds the map and clears replica-incomplete; from SYNCED it goes to RESYNCING when blocks are then
dirty, without SYNC_LOST; in RESYNCING the check for SYNCED is taken; in TRACKING the state stays (R105). START and
STOP in the states that do not accept them, and the origin's commands in the REPLICA role or, for RESEED, PAUSE and
RESYNC, in DISABLED, are answered REFUSED and change nothing else; so is every code of no command (R99, R104, R105,
R106, R163, R164, R186). -/
def Obligations.ReseedActsByStateAndStrayCommandsAreRefused : Prop :=
  (∀ s : State, s.porst = false → s.portReady → s.role = .origin →
    ∃ u : State, u = { s with
        sp := s.answered .accepted, dirty := s.dirty.seed s.regions.toList, mirror.incomplete := false } ∧
      (s.mirror.state = .tracking → exec .reseed s = .next u) ∧
      (s.mirror.state = .synced → 0 < u.dirty.count →
        exec .reseed s = .next (examineCopy { u with mirror.state := .resyncing })) ∧
      (s.mirror.state = .synced → u.dirty.count = 0 → exec .reseed s = .next u) ∧
      (s.mirror.state = .resyncing → exec .reseed s = .next (examineCopy (checkSynced u)))) ∧
  (∀ s : State, s.porst = false → s.portReady →
    ((s.role = .origin ∧ s.mirror.state ≠ .disabled) ∨ (s.role = .replica ∧ s.mirror.replica ≠ .disabled) →
      exec .start s = .next { s with sp := s.answered .refused }) ∧
    ((s.role = .origin ∧ s.mirror.state = .disabled) ∨ (s.role = .replica ∧ s.mirror.replica = .disabled) →
      exec .stop s = .next { s with sp := s.answered .refused }) ∧
    (s.role = .replica ∨ s.mirror.state = .disabled → ∀ c, c = .reseed ∨ c = .pause ∨ c = .resync ∨ c = .mark →
      exec c s = .next { s with sp := s.answered .refused }) ∧
    (∀ code : Byte, code.toNat = 0 ∨ 10 < code.toNat ∨ (s.role = .replica ∧ 3 ≤ code.toNat ∧ code.toNat ≤ 7) →
      exec (.unknownCommand code) s = .next { s with sp := s.answered .refused }))

/-- PAUSE and RESYNC are ACCEPTED in TRACKING, RESYNCING and SYNCED and set and clear the pause flag; RESYNC lets
the copy engine examine its conditions; in DISABLED both are REFUSED; neither changes the mirror state, the journal
or the dirty map; while the flag is set no start is decided, so the dirty blocks wait (R106). -/
def Obligations.PauseAndResyncMoveThePauseFlag : Prop :=
  ∀ s : State, s.porst = false → s.portReady → s.role = .origin →
    (s.mirror.state = .tracking ∨ s.mirror.state = .resyncing ∨ s.mirror.state = .synced →
      exec .pause s = .next { s with sp := s.answered .accepted, copy.paused := true } ∧
      exec .resync s = .next (examineCopy { s with sp := s.answered .accepted, copy.paused := false })) ∧
    (s.mirror.state = .disabled → ∀ c, c = .pause ∨ c = .resync →
      exec c s = .next { s with sp := s.answered .refused }) ∧
    (∀ c, c = .pause ∨ c = .resync → ∃ t, exec c s = .next t ∧ t.mirror = s.mirror ∧
      t.journal = s.journal ∧ t.dirty = s.dirty) ∧
    (s.copy.paused = true → examineCopy s = s)

/-- A mark request in RESYNCING or SYNCED with none pending takes the next number and is appended at once below
512, consistent exactly in SYNCED with replica-incomplete clear; at 512 it waits. The command and an edge of the
MARK pin do the same; refused, the command is answered REFUSED and the edge raises MARK_REFUSED (R110, R111, R112).
That the row of the pin carries a level, and that a level without an edge only moves the pin, is the model's choice
(log 18).A mark report that waits leaves the state SYNCED (log 34). Every DRAIN request of an origin sets DRAINED
low. One in RESYNCING or SYNCED, link UP, no drain and no mark request pending, takes the next mark number and
appends its MARK with the drain flag below 512, keeping its seq and consistent flag; at 512 the request waits with
its number and the drain is pending; with a drain pending the command is BUSY, else REFUSED, and a refused edge
raises DRAIN_FAILED (R112, R114; the levels of the pin's row are log 18's; a mark report that waits leaves the
state SYNCED, log 34). In the REPLICA role an edge of the MARK or DRAIN pin is no request: the level alone moves
(R111, R114; the levels are log 18's), and the DRAIN command is REFUSED with nothing changed (R186). -/
def Obligations.MarkAndDrainRequestsEnterTheStream : Prop :=
  (∀ s : State, s.porst = false → s.role = .origin →
    (s.mirror.state = .resyncing ∨ s.mirror.state = .synced → s.mirror.pendingMark = none →
      (s.journal.entries.length < 512 → ∀ c, c = decide (s.mirror.state = .synced ∧ s.mirror.incomplete = false) →
        ∃ j, j = { s.journal with
            entries := s.journal.entries ++ [⟨s.journal.nextSeq, false, .mark (s.mirror.lastIssued + 1) c false⟩]
            nextSeq := s.journal.nextSeq + 1 } ∧
          (s.portReady → exec .mark s = .next { s with
            sp := s.answered .accepted, journal := j, mirror.lastIssued := s.mirror.lastIssued + 1 }) ∧
          (s.markPin = false → exec (.markPinEdge true) s = .next { s with
            markPin := true, journal := j, mirror.lastIssued := s.mirror.lastIssued + 1 })) ∧
      (512 ≤ s.journal.entries.length →
        (s.portReady → exec .mark s = .next { s with
          sp := s.answered .accepted
          mirror := { s.mirror with
            lastIssued := s.mirror.lastIssued + 1, pendingMark := some ⟨s.mirror.lastIssued + 1, false⟩ } }) ∧
        (s.markPin = false → exec (.markPinEdge true) s = .next { s with
          markPin := true
          mirror := { s.mirror with
            lastIssued := s.mirror.lastIssued + 1, pendingMark := some ⟨s.mirror.lastIssued + 1, false⟩ } }))) ∧
    (s.mirror.state = .disabled ∨ s.mirror.state = .tracking ∨ s.mirror.pendingMark.isSome = true →
      (s.portReady → exec .mark s = .next { s with sp := s.answered .refused }) ∧
      (s.markPin = false → exec (.markPinEdge true) s = .next { s with
        markPin := true, causes := s.raised .markRefused })) ∧
    (∀ level, s.markPin = true ∨ level = false → exec (.markPinEdge level) s = .next { s with markPin := level })) ∧
  (∀ s : State, s.porst = false → s.role = .origin →
    (s.mirror.state = .resyncing ∨ s.mirror.state = .synced → s.link.state = .up → s.mirror.drain = .clear →
      s.mirror.pendingMark = none → s.journal.entries.length < 512 →
      ∀ c, c = decide (s.mirror.state = .synced ∧ s.mirror.incomplete = false) →
        ∃ u : State, u = { s with
            journal := { s.journal with
              entries := s.journal.entries ++ [⟨s.journal.nextSeq, false, .mark (s.mirror.lastIssued + 1) c true⟩]
              nextSeq := s.journal.nextSeq + 1 }
            mirror := { s.mirror with
              lastIssued := s.mirror.lastIssued + 1, drained := false, drainConsistent := false
              drain := .appended ⟨s.journal.nextSeq, c⟩ } } ∧
          (s.portReady → exec .drain s = .next { u with sp := s.answered .accepted }) ∧
          (s.drainPin = false → exec (.drainPinEdge true) s = .next { u with drainPin := true })) ∧
    (s.mirror.state = .resyncing ∨ s.mirror.state = .synced → s.link.state = .up → s.mirror.drain = .clear →
      s.mirror.pendingMark = none → 512 ≤ s.journal.entries.length →
      ∃ u : State, u = { s with
          mirror := { s.mirror with
            lastIssued := s.mirror.lastIssued + 1, pendingMark := some ⟨s.mirror.lastIssued + 1, true⟩
            drained := false, drainConsistent := false, drain := .requested } } ∧
        (s.portReady → exec .drain s = .next { u with sp := s.answered .accepted }) ∧
        (s.drainPin = false → exec (.drainPinEdge true) s = .next { u with drainPin := true })) ∧
    (s.mirror.drain ≠ .clear →
      (s.portReady → exec .drain s = .next { s with sp := s.answered .busy, mirror.drained := false }) ∧
      (s.drainPin = false → exec (.drainPinEdge true) s = .next { s with
        drainPin := true, mirror.drained := false, causes := s.raised .drainFailed })) ∧
    (s.mirror.drain = .clear → s.mirror.state = .disabled ∨ s.mirror.state = .tracking ∨ s.link.state ≠ .up ∨
        s.mirror.pendingMark.isSome = true →
      (s.portReady → exec .drain s = .next { s with sp := s.answered .refused, mirror.drained := false }) ∧
      (s.drainPin = false → exec (.drainPinEdge true) s = .next { s with
        drainPin := true, mirror.drained := false, causes := s.raised .drainFailed })) ∧
    (∀ level, s.drainPin = true ∨ level = false → exec (.drainPinEdge level) s = .next { s with drainPin := level })) ∧
  (∀ s : State, s.porst = false → s.role = .replica →
    (∀ level, exec (.markPinEdge level) s = .next { s with markPin := level } ∧
      exec (.drainPinEdge level) s = .next { s with drainPin := level }) ∧
    (s.portReady → exec .drain s = .next { s with sp := s.answered .refused }))

/-- LINK_RESET in CONNECTING counts and raises LINK_DOWN, empties slot and buffer and requests a break; the origin
goes to DOWN with its holdoff, the replica stays CONNECTING. In OFF and DOWN it is REFUSED (R127, R141, R157). The
link enable: set in OFF it takes the link to DOWN, where the origin starts its holdoff and the replica goes on to
CONNECTING; set elsewhere it changes nothing; cleared in DOWN or CONNECTING it takes the link to OFF with the
timers stopped, slot and buffer empty, TXD at mark once a character in progress is completed, the receiver hunting,
the break detector to count anew, and no cause; cleared in OFF nothing (R119, R128, R129, R135, R137, R141). -/
def Obligations.LinkResetAndLinkEnableMoveTheLink : Prop :=
  (∀ s : State, s.porst = false → s.portReady →
    (s.link.state = .connecting → s.tx.line ≠ .space →
      exec .linkReset s = .next { s with
        sp := s.answered .accepted, counters := s.counted .linkDowns, causes := s.raised .linkDown
        tx := ⟨none, none, (match s.tx.line with
          | .sending _ => .finishing
          | other => other), true⟩
        link := { s.link with
          state := if s.role = .origin then .down else .connecting
          helloTimer := if s.role = .origin then some s.cfg.keepalive.toNat else none
          silenceTimer := none, ackTimer := none, timeouts := 0 } }) ∧
    (s.link.state = .off ∨ s.link.state = .down → exec .linkReset s = .next { s with sp := s.answered .refused })) ∧
  (∀ s : State, s.porst = false → s.portReady →
    (s.link.state = .off → exec (.controlLinkEnable true) s = .next { s with
      sp := s.answered .accepted, control.linkEnable := true
      link := { s.link with
        state := if s.role = .origin then .down else .connecting
        helloTimer := if s.role = .origin then some s.cfg.keepalive.toNat else s.link.helloTimer } }) ∧
    (s.link.state ≠ .off → exec (.controlLinkEnable true) s = .next { s with
      sp := s.answered .accepted, control.linkEnable := true }) ∧
    (s.link.state = .off → exec (.controlLinkEnable false) s = .next { s with
      sp := s.answered .accepted, control.linkEnable := false }) ∧
    (s.link.state = .down ∨ s.link.state = .connecting → ∃ t, exec (.controlLinkEnable false) s = .next t ∧
      t.sp = s.answered .accepted ∧ t.control.linkEnable = false ∧
      t.link = { s.link with
        state := .off, helloTimer := none, silenceTimer := none, ackTimer := none, timeouts := 0
        session := if s.role = .replica then 0 else s.link.session } ∧
      t.tx.slot = none ∧ t.tx.buffer = none ∧ t.tx.breakPending = false ∧ t.rx.phase = .hunting ∧
      t.rx.runReported = false ∧ (∀ f, t.tx.line ≠ .sending f) ∧ (∀ k, 9 ≤ k → t.tx.line.level k = some true) ∧
      (s.apply.phase = .idle → t.rx.slots = []) ∧ t.causes = s.causes ∧ t.counters = s.counters ∧
      t.mirror = s.mirror ∧ t.journal = s.journal ∧ t.dirty = s.dirty ∧ t.sys = s.sys))

/-- CLEAR_COUNTERS is ACCEPTED in every state and both roles and sets all thirteen counters to 0; nothing else
changes, neither CAUSE, ENABLE, IRQ, COPY_FAULT_BLOCK, nor the mark and sequence numbers; an event taken before it
is cleared with the rest, and one taken after it reads 1 (R189). -/
def Obligations.ClearCountersClearsAllThirteen : Prop :=
  ∀ s : State, s.porst = false → s.portReady →
    exec .clearCounters s = .next { s with sp := s.answered .accepted, counters := Vector.replicate 13 0 } ∧
    (∀ c : Counter, exec .clearCounters (bump c s) = exec .clearCounters s) ∧
    (∀ (t : State) (c : Counter), exec .clearCounters s = .next t →
      t.irq = s.irq ∧ (bump c t).counter c = 1 ∧ ∀ d, d ≠ c → (bump c t).counter d = 0)

/-- SOFT_RESET is answered ACCEPTED at once and taken later, at the end of its RESPONSE byte or at the deassertion
of SPSEL, which any later transaction begins with (log 23): then every block has its values after PORST, but the
role, the levels of the reset pins, the system port's transaction (a held write completed OK) and what the memory
port keeps of the system port; MARK and DRAIN are sampled. The service port waits for SPSEL anew: past the RESPONSE
byte, with SPSEL asserted, it is in DONE, where SPDO carries 0 and clocks change nothing. The model's own in it:
queue and choice counter (log 21), the port's data and response (log 3), the bytes of FREE buffers (log 5), a write
that SRST abandoned before stays so (log 11), and the reports on their way are cleared (log 29) (R44, R75 to R77,
R111, R181, R188). PORST puts every block to its values for PORST, withdraws the requests and drops the answer of a
transaction at memory; its deassertion samples ROLE, MARK and DRAIN and changes nothing else, but that the service
port ignores a transaction whose SPSEL is asserted already. IRQ, SYNC and DRAINED are low, TXD rests at mark and
SPDO is undriven meanwhile. The model's own in it: queue and choice counter (log 21), the port's data and response
(log 3), the bytes of FREE buffers (log 5), the levels of SRST, MARK and DRAIN and the role kept under PORST (log
24), the reports cleared (log 29) (R75 to R77, R111, R181, R193). A service-port transaction whose SPSEL was
asserted when PORST was deasserted is ignored: whatever it carries, it only ends with SPSEL deasserted, after which
the port takes transactions again (R193). -/
def Obligations.SoftResetAndPorstResetThePart : Prop :=
  ((∀ s : State, s.porst = false → s.portReady → exec .softReset s = .next { s with
    sp := { s.answered .accepted with resetPending := true } }) ∧
  (∀ (c : Instr) (selected : Bool) (s : State), s.porst = false → s.sp.phase ≠ .ignored → s.sp.resetPending = true →
    c.isServiceCommand = true → ∃ t, exec (.softResetTaken ⟨s.markPin, s.drainPin⟩ selected) s = .next t ∧ t.portReady ∧
      exec c s = exec c t) ∧
  (∀ (pins : RequestPins) (selected : Bool) (s : State), s.porst = false → s.sp.resetPending = true →
    exec (.softResetTaken pins selected) s = .next { State.reset with
      role := s.role, srst := s.srst, markPin := pins.mark, drainPin := pins.drain
      sp.phase := if selected then .done else .deselected
      sys := ⟨(match s.sys.phase with
        | .held t => .complete t .ok 0
        | other => other), none⟩
      mem := { s.mem with
        phase := match s.mem.phase with
          | .busy t fate => if t.owner = .system then .busy t fate else .busy t .dropped
          | other => other
        engineRequest := none, lastGranted := .engine }
      choices := s.choices, pending := s.pending }) ∧
  (∀ (pins : RequestPins) (s : State), s.porst = false → s.sp.resetPending = true →
    ∃ t, exec (.softResetTaken pins true) s = .next t ∧ t.spdo = some (List.replicate 8 false) ∧
      ∀ b, clockByte b t = t)) ∧
  ((∀ s : State, ∃ t, exec .porstAssert s = .next t ∧
    t = { State.reset with
      role := s.role, porst := true, srst := s.srst, markPin := s.markPin, drainPin := s.drainPin
      mem := ⟨(match s.mem.phase with
        | .busy q _ => .busy q .dropped
        | other => other), none, none, .engine⟩
      choices := s.choices, pending := s.pending } ∧
    t.irq = false ∧ t.sync = false ∧ t.mirror.drained = false ∧ t.tx.line = .gap ∧
    (∀ k, t.tx.line.level k = some true) ∧ t.spdo = none) ∧
  (∀ (r m d selected : Bool) (s : State), s.porst = true → exec (.porstDeassert r ⟨m, d⟩ selected) s = .next { s with
    porst := false, role := if r then .origin else .replica, markPin := m, drainPin := d
    sp.phase := if selected then .ignored else s.sp.phase })) ∧
  (∀ (c : Instr) (s : State), s.porst = false → s.sp.phase = .ignored → c.isServiceCommand = true →
    exec c s = .next { s with sp.phase := .deselected })

/-! ### Registers -/

/-- A write of CONTROL.arb is ACCEPTED in any state and either role and sets the field alone: a transaction at
memory and the last-granted indication are kept, the next decision uses the new value; reset gives ALTERNATE, SRST
keeps it, and it reads back in bit 1 (R71). -/
def Obligations.ArbPolicyAppliesFromNextDecision : Prop :=
  (∀ (v : ArbPolicy) (s : State), s.porst = false → s.portReady → exec (.controlArb v) s = .next { s with
    sp := s.answered .accepted, control.arb := v }) ∧
  (∀ (v : ArbPolicy) (s t : State), s.porst = false → s.portReady → exec (.controlArb v) s = .next t →
    t.mem = s.mem ∧ exec .memoryReady t = .next { t with mem := s.mem.ready v }) ∧
  State.reset.control.arb = .alternate ∧
  (∀ s : State, ∃ t, exec .porstAssert s = .next t ∧ t.control.arb = .alternate) ∧
  (∀ (pins : RequestPins) (selected : Bool) (s : State), s.porst = false → s.sp.resetPending = true →
    ∃ t, exec (.softResetTaken pins selected) s = .next t ∧ t.control.arb = .alternate) ∧
  (∀ s : State, ∃ t u, exec .srstAssert s = .next t ∧ exec .srstDeassert s = .next u ∧
    t.control.arb = s.control.arb ∧ u.control.arb = s.control.arb) ∧
  (∀ s : State, ∃ w, readRegister 0x01 s = some w ∧ w.getLsbD 1 = decide (s.control.arb = .systemFirst))

/-- Writes of CONTROL.merge and CONTROL.pace are ACCEPTED in every state and set their field alone; a write of the
whole register with the link enable unchanged sets the three fields and ignores the role bit; the DATA bytes of a
WRITE spell its value least significant first (R52, R181, R185, R191, R192; that REGISTER_WRITE stands for a write
of these registers too is log 17's). A WRITE of a read-only register is REFUSED and one of no register NO_REGISTER,
changing nothing; one of any register is answered in RESPONSE, and one that loses SPSEL before its fourth DATA byte
changes nothing and has no response. An opcode neither READ nor WRITE is answered REFUSED with DATA bytes 0; a READ
drives the register's value, or 0 with NO_REGISTER, and has no side effect (R181 to R184; that INVALID_OPCODE
reaches a READ is log 16's, and that REGISTER_WRITE takes any index log 17's). What a READ of each register
returns: identity, control and status bits, causes and enables, configuration fields, regions and counters, and of
each role its own: occupancy and in-flight count, dirty count and cursor, sequence numbers, marks and the copy
fault's block, which read 0 in the other role where they have no counterpart (R12, R31, R182, R190 to R192; the
register summary of 10.2; the silicon revision is log 4's). -/
def Obligations.RegisterWritesSetOneFieldOrAreAnswered : Prop :=
  (∀ s : State, s.porst = false → s.portReady →
    (∀ v, exec (.controlMerge v) s = .next { s with sp := s.answered .accepted, control.merge := v }) ∧
    (∀ v, exec (.controlPace v) s = .next { s with sp := s.answered .accepted, control.pace := v }) ∧
    (∀ b0 b1 b2 b3 : Byte, s.control.linkEnable = b0.getLsbD 3 → (s.link.state = .off ↔ s.control.linkEnable = false) →
      exec (.registerWrite 0x01 [b0, b1, b2, b3]) s = .next { s with
        sp := s.answered .accepted
        control := { s.control with
          merge := b0.getLsbD 0, arb := if b0.getLsbD 1 then .systemFirst else .alternate
          pace := if b0.getLsbD 2 then .track else .stall } }) ∧
    (∀ b0 b1 b2 b3 : Byte,
      exec (.registerWrite 0x04 [b0, b1, b2, b3]) s = exec (.cause (b3 ++ (b2 ++ (b1 ++ b0)))) s ∧
      exec (.registerWrite 0x05 [b0, b1, b2, b3]) s = exec (.enable (b3 ++ (b2 ++ (b1 ++ b0)))) s)) ∧
  (∀ (index : Byte) (s : State), s.porst = false → s.portReady →
    (∀ b0 b1 b2 b3, index.toNat = 0 ∨ index.toNat = 2 ∨ (6 ≤ index.toNat ∧ index.toNat ≤ 11) ∨ index.toNat = 0x11 ∨
        (0x30 ≤ index.toNat ∧ index.toNat ≤ 0x3C) →
      exec (.registerWrite index [b0, b1, b2, b3]) s = .next { s with sp := s.answered .refused }) ∧
    (∀ b0 b1 b2 b3, (0x12 ≤ index.toNat ∧ index.toNat ≤ 0x1F) ∨ 0x3D ≤ index.toNat →
      exec (.registerWrite index [b0, b1, b2, b3]) s = .next { s with sp := s.answered .noRegister }) ∧
    (∀ b0 b1 b2 b3, ∃ t r, exec (.registerWrite index [b0, b1, b2, b3]) s = .next t ∧ t.sp.phase = .response ∧
      t.sp.dataOut = 0 ∧ t.sp.response = some r) ∧
    (∀ data : List Byte, data.length < 4 → exec (.registerWrite index data) s = .next { s with
      sp := { s.sp with phase := .deselected, dataOut := 0, response := none } }) ∧
    (∀ opcode : Byte, opcode ≠ 1 → opcode ≠ 2 → exec (.invalidOpcode opcode index) s = .next { s with
      sp := { s.sp with phase := .data opcode index [], dataOut := 0, response := some .refused } }) ∧
    (∀ w, readRegister index s = some w →
      takeAtIndexByte 1 index s = { s with
        sp := { s.sp with phase := .data 1 index [], dataOut := w, response := some .accepted } } ∧
      exec (.invalidOpcode 1 index) s = .next (takeAtIndexByte 1 index s)) ∧
    (readRegister index s = none →
      takeAtIndexByte 1 index s = { s with
        sp := { s.sp with phase := .data 1 index [], dataOut := 0, response := some .noRegister } } ∧
      exec (.invalidOpcode 1 index) s = .next (takeAtIndexByte 1 index s)) ∧
    (readRegister index s = none ↔ (0x12 ≤ index.toNat ∧ index.toNat ≤ 0x1F) ∨ 0x3D ≤ index.toNat) ∧
    (s.sp.spdo = match s.sp.phase with
      | .deselected | .ignored => none
      | .opcode | .index _ | .done => some 0
      | .data _ _ received => some (BitVec.ofNat 8 (s.sp.dataOut.toNat / 256 ^ received.length))
      | .response => some (match s.sp.response with
        | some .accepted => 1
        | some .refused => 2
        | some .noRegister => 3
        | some .busy => 4
        | none => 0))) ∧
  (∀ s : State,
    readRegister 0x00 s = some (0x0620#16 ++ (0x4D#8 ++ Config.siliconRevision)) ∧
    (∃ w, readRegister 0x01 s = some w ∧ w.getLsbD 0 = s.control.merge ∧
      w.getLsbD 1 = decide (s.control.arb = .systemFirst) ∧ w.getLsbD 2 = decide (s.control.pace = .track) ∧
      w.getLsbD 3 = s.control.linkEnable ∧ w.getLsbD 8 = decide (s.role = .origin) ∧
      ∀ k, (3 < k ∧ k < 8) ∨ 8 < k → w.getLsbD k = false) ∧
    (∃ w, readRegister 0x02 s = some w ∧
      (w.extractLsb' 0 2).toNat = (match s.role, s.mirror.state, s.mirror.replica with
        | .origin, .disabled, _ => 0
        | .origin, .tracking, _ => 1
        | .origin, .resyncing, _ => 2
        | .origin, .synced, _ => 3
        | .replica, _, .disabled => 0
        | .replica, _, .listening => 1
        | .replica, _, .applying => 2) ∧
      (w.extractLsb' 2 2).toNat = (match s.link.state with
        | .off => 0
        | .down => 1
        | .connecting => 2
        | .up => 3) ∧
      w.extractLsb' 4 4 = s.link.session ∧
      (s.role = .origin → (w.getLsbD 8 = true ↔ ∃ t, s.sys.phase = .held t) ∧ w.getLsbD 9 = s.copy.paused ∧
        w.getLsbD 10 = s.mirror.incomplete ∧ w.getLsbD 11 = s.mirror.pendingMark.isSome ∧
        w.getLsbD 12 = decide (s.mirror.drain ≠ .clear) ∧ w.getLsbD 13 = s.mirror.drainConsistent ∧
        ∀ k, 13 < k → w.getLsbD k = false) ∧
      (s.role = .replica → (∀ k, (7 < k ∧ k < 14) ∨ 16 < k → w.getLsbD k = false) ∧ w.getLsbD 14 = s.apply.coherent ∧
        w.getLsbD 15 = s.apply.fresh ∧ w.getLsbD 16 = s.apply.fault)) ∧
    readRegister 0x03 s = some 0 ∧ (readRegister 0x04 s).map BitVec.toNat = some s.causes.toNat ∧
    (readRegister 0x05 s).map BitVec.toNat = some s.enables.toNat ∧
    (s.role = .origin →
      (s.journal.wf = true →
        (readRegister 0x06 s).map BitVec.toNat = some (s.journal.entries.length + 2 ^ 16 * s.journal.sendPoint)) ∧
      readRegister 0x07 s = some (BitVec.ofNat 32 s.dirty.count) ∧
      (readRegister 0x08 s).map BitVec.toNat = some s.dirty.cursor.toNat ∧
      readRegister 0x09 s = some s.journal.nextSeq ∧ readRegister 0x0A s = some s.journal.lastAcked ∧
      readRegister 0x0B s = some (s.mirror.lastAckedMark ++ s.mirror.lastIssued) ∧
      (readRegister 0x11 s).map BitVec.toNat = some s.copy.faultBlock.toNat) ∧
    (s.role = .replica →
      readRegister 0x06 s = some 0 ∧ readRegister 0x07 s = some 0 ∧ readRegister 0x08 s = some 0 ∧
      readRegister 0x09 s = some s.apply.expected ∧ readRegister 0x0A s = some s.apply.lastAckSent ∧
      readRegister 0x0B s = some (s.apply.lastConsistent ++ s.apply.lastMark) ∧ readRegister 0x11 s = some 0) ∧
    (readRegister 0x0C s).map BitVec.toNat = some (s.cfg.divisor.toNat + 2 ^ 16 * s.cfg.window.toNat) ∧
    (readRegister 0x0D s).map BitVec.toNat = some (s.cfg.ackTimeout.toNat + 2 ^ 16 * s.cfg.retryLimit.toNat) ∧
    (readRegister 0x0E s).map BitVec.toNat = some (s.cfg.keepalive.toNat + 2 ^ 16 * s.cfg.silence.toNat) ∧
    (readRegister 0x0F s).map BitVec.toNat = some (s.cfg.highWatermark.toNat + 2 ^ 10 * s.cfg.copyCeiling.toNat +
      2 ^ 20 * s.cfg.stallLimit.toNat) ∧
    (readRegister 0x10 s).map BitVec.toNat = some (s.cfg.copyPacing.toNat + 2 ^ 16 * s.cfg.ackEvery.toNat) ∧
    (∀ n : Fin 8,
      (readRegister (BitVec.ofNat 8 (0x20 + 2 * n.val)) s).map BitVec.toNat = some (s.regions[n].base.toNat +
        2 ^ 16 * (if s.regions[n].mode = .mirror then 1 else 0) + 2 ^ 31 * (if s.regions[n].enable then 1 else 0)) ∧
      (readRegister (BitVec.ofNat 8 (0x21 + 2 * n.val)) s).map BitVec.toNat = some s.regions[n].limit.toNat) ∧
    (∀ c : Counter, (readRegister (BitVec.ofNat 8 (0x30 + c.index.val)) s).map BitVec.toNat = some (s.counter c).toNat))

/-- A WRITE to CAUSE is ACCEPTED in every state, clears exactly the bits written as 1 and ignores bits 13 to 31;
raising sets a bit that stays set until then; raise and clear take effect in the order taken; PORST and SOFT_RESET
clear CAUSE, and SRST, CLEAR_COUNTERS, STOP of a DISABLED part and START keep what is raised (R191). -/
def Obligations.CauseWriteClearsWrittenOnes : Prop :=
  (∀ (pins : RequestPins) (selected : Bool) (s : State), s.porst = false → s.sp.resetPending = true →
    ∃ u, exec (.softResetTaken pins selected) s = .next u ∧ u.causes = 0) ∧
  ∀ (v : Word) (s : State), s.porst = false → s.portReady →
    ∃ t, exec (.cause v) s = .next t ∧ t = { s with
        sp := s.answered .accepted, causes := s.causes &&& ~~~ (v.extractLsb' 0 13) } ∧
      (∀ c : Cause, t.hasCause c = (s.hasCause c && !v.getLsbD c.bit)) ∧
      (∀ c : Cause, (raise c t).hasCause c = true ∧ (raise c s).hasCause c = true ∧
        ∃ u, exec (.cause v) (raise c s) = .next u ∧ u.hasCause c = !v.getLsbD c.bit) ∧
      (∀ c : Cause, s.hasCause c = true → raise c s = s) ∧
      (∃ u, exec .porstAssert s = .next u ∧ u.causes = 0) ∧
      (∀ c, c = .srstAssert ∨ c = .srstDeassert ∨ c = .clearCounters → ∃ u, exec c s = .next u ∧ u.causes = s.causes) ∧
      (∀ c, c = .start ∨ c = .stop → ∃ u, exec c s = .next u ∧ ∀ d, s.hasCause d = true → u.hasCause d = true)

/-- ENABLE is written in every state with bits 13 to 31 ignored, is cleared by PORST and SOFT_RESET and kept
through SRST and CLEAR_COUNTERS; IRQ is high exactly while a cause is set whose enable is set, so it follows every
change of either at once, and is low after PORST and SOFT_RESET (R192). -/
def Obligations.IrqFollowsCausesAndEnables : Prop :=
  (∀ s : State, s.irq = true ↔ ∃ c : Cause, s.hasCause c = true ∧ s.enables.getLsbD c.bit = true) ∧
  (∀ (v : Word) (s : State), s.porst = false → s.portReady → exec (.enable v) s = .next { s with
    sp := s.answered .accepted, enables := v.extractLsb' 0 13 }) ∧
  (∀ s : State, ∃ u, exec .porstAssert s = .next u ∧ u.enables = 0 ∧ u.irq = false) ∧
  (∀ (pins : RequestPins) (selected : Bool) (s : State), s.porst = false → s.sp.resetPending = true →
    ∃ u, exec (.softResetTaken pins selected) s = .next u ∧ u.enables = 0 ∧ u.irq = false) ∧
  (∀ (c : Instr) (s : State), c = .srstAssert ∨ c = .srstDeassert ∨ (c = .clearCounters ∧ s.sp.resetPending = false) →
    ∃ u, exec c s = .next u ∧ u.enables = s.enables ∧ u.irq = s.irq) ∧
  (∀ (s : State) (c : Cause), (raise c s).enables = s.enables ∧ (raise c s).hasCause c = true ∧
    (s.enables.getLsbD c.bit = true → (raise c s).irq = true))

/-- A REGION write is ACCEPTED in DISABLED, where it sets the fields of its own register of the pair and no other,
and is REFUSED with no effect in any other state (R45, R47, R184). LINKCFG, ACKCFG and KEEPCFG: a write with every
field in range is ACCEPTED and sets the register's two fields, and any other is REFUSED and changes neither;
LINKCFG is moreover REFUSED unless the link is OFF (R120, R140, R184). PACECFG and COPYCFG: a write with every
field in range is ACCEPTED, sets the register's fields and lets the copy engine examine its conditions; any other
is REFUSED and changes none (R52, R83, R84, R184). -/
def Obligations.ConfigurationWritesAreJudged : Prop :=
  (∀ (n : Fin 8) (half : RegionHalf) (v : Word) (s : State), s.porst = false → s.portReady →
    ((s.role = .origin ∧ s.mirror.state = .disabled) ∨ (s.role = .replica ∧ s.mirror.replica = .disabled) →
      exec (.region n .base v) s = .next { s with
        sp := s.answered .accepted
        regions := s.regions.set n { s.regions[n] with
          enable := v.getLsbD 31, base := v.extractLsb' 0 16
          mode := if v.getLsbD 16 then .mirror else .exclude } } ∧
      exec (.region n .limit v) s = .next { s with
        sp := s.answered .accepted
        regions := s.regions.set n { s.regions[n] with limit := v.extractLsb' 0 16 } }) ∧
    ((s.role = .origin ∧ s.mirror.state ≠ .disabled) ∨ (s.role = .replica ∧ s.mirror.replica ≠ .disabled) →
      exec (.region n half v) s = .next { s with sp := s.answered .refused })) ∧
  (∀ (v : Word) (s : State), s.porst = false → s.portReady →
    (s.link.state = .off ∧ 1 ≤ (v.extractLsb' 16 6).toNat ∧ (v.extractLsb' 16 6).toNat ≤ 32 →
      exec (.linkcfg v) s = .next { s with
        sp := s.answered .accepted
        cfg := { s.cfg with divisor := v.extractLsb' 0 8, window := v.extractLsb' 16 6 } }) ∧
    (¬ (s.link.state = .off ∧ 1 ≤ (v.extractLsb' 16 6).toNat ∧ (v.extractLsb' 16 6).toNat ≤ 32) →
      exec (.linkcfg v) s = .next { s with sp := s.answered .refused }) ∧
    (10 ≤ (v.extractLsb' 0 12).toNat ∧ 1 ≤ (v.extractLsb' 16 4).toNat →
      exec (.ackcfg v) s = .next { s with
        sp := s.answered .accepted
        cfg := { s.cfg with ackTimeout := v.extractLsb' 0 12, retryLimit := v.extractLsb' 16 4 } }) ∧
    (¬ (10 ≤ (v.extractLsb' 0 12).toNat ∧ 1 ≤ (v.extractLsb' 16 4).toNat) →
      exec (.ackcfg v) s = .next { s with sp := s.answered .refused }) ∧
    (100 ≤ (v.extractLsb' 0 14).toNat ∧ (v.extractLsb' 0 14).toNat ≤ 10000 ∧ 200 ≤ (v.extractLsb' 16 16).toNat →
      exec (.keepcfg v) s = .next { s with
        sp := s.answered .accepted
        cfg := { s.cfg with keepalive := v.extractLsb' 0 14, silence := v.extractLsb' 16 16 } }) ∧
    (¬ (100 ≤ (v.extractLsb' 0 14).toNat ∧ (v.extractLsb' 0 14).toNat ≤ 10000 ∧ 200 ≤ (v.extractLsb' 16 16).toNat) →
      exec (.keepcfg v) s = .next { s with sp := s.answered .refused })) ∧
  (∀ (v : Word) (s : State), s.porst = false → s.portReady →
    (16 ≤ (v.extractLsb' 0 10).toNat ∧ (v.extractLsb' 0 10).toNat ≤ 512 ∧ 1 ≤ (v.extractLsb' 20 10).toNat →
      exec (.pacecfg v) s = .next (examineCopy { s with
        sp := s.answered .accepted
        cfg := { s.cfg with
          highWatermark := v.extractLsb' 0 10, copyCeiling := v.extractLsb' 10 9, stallLimit := v.extractLsb' 20 10 } })) ∧
    (¬ (16 ≤ (v.extractLsb' 0 10).toNat ∧ (v.extractLsb' 0 10).toNat ≤ 512 ∧ 1 ≤ (v.extractLsb' 20 10).toNat) →
      exec (.pacecfg v) s = .next { s with sp := s.answered .refused }) ∧
    (1 ≤ (v.extractLsb' 16 5).toNat ∧ (v.extractLsb' 16 5).toNat ≤ 16 →
      exec (.copycfg v) s = .next (examineCopy { s with
        sp := s.answered .accepted
        cfg := { s.cfg with copyPacing := v.extractLsb' 0 10, ackEvery := v.extractLsb' 16 5 } })) ∧
    (¬ (1 ≤ (v.extractLsb' 16 5).toNat ∧ (v.extractLsb' 16 5).toNat ≤ 16) →
      exec (.copycfg v) s = .next { s with sp := s.answered .refused }))

/-! ### The mirror controller's reports and output -/

/-- The mark report: in SYNCED the mark of a clear bit moves the state to RESYNCING with SYNC_LOST; any other
changes no state; after either the copy engine examines its conditions (R33, R83, R101). The acknowledge-through
report with no mark request pending: no mark removed leaves the mark numbers; a removed MARK gives its number to
the last acknowledged mark with MARK_ACKED, and completes the pending drain whose seq it has, with DRAINED high,
DRAIN_DONE and its consistent flag; several are taken oldest first, so that the last one's number stays; then the
check for SYNCED is taken (R102, R113, R115). That a report older than a link loss or a STOP still does so is the
model's choice (log 29, log 32). -/
def Obligations.MarkAndAckReportsMoveTheMirrorState : Prop :=
  (∀ (r : MarkReport) (rest : List MarkReport) (s : State), s.porst = false → s.reports.marks = r :: rest →
    (s.mirror.state = .synced → r.wasClear = true →
      exec .dirtyMarkReport s = .next (examineCopy { s with
        reports.marks := rest, mirror.state := .resyncing, causes := s.raised .syncLost })) ∧
    (s.mirror.state ≠ .synced ∨ r.wasClear = false →
      exec .dirtyMarkReport s = .next (examineCopy { s with reports.marks := rest }))) ∧
  ((∀ (rest : List (List RemovedMark)) (s : State), s.porst = false → s.mirror.pendingMark = none →
    (s.reports.mirrorAcks = [] :: rest →
      exec .mirrorAckReport s = .next (checkSynced { s with reports.mirrorAcks := rest })) ∧
    (∀ m, s.reports.mirrorAcks = [m] :: rest →
      (∀ d, s.mirror.drain = .appended d → m.drain = true → m.seq = d.seq →
        exec .mirrorAckReport s = .next (checkSynced { s with
          reports.mirrorAcks := rest
          mirror := { s.mirror with
            lastAckedMark := m.number, drained := true, drainConsistent := d.consistent, drain := .clear }
          causes := s.raised .markAcked ||| (1#13 <<< Cause.drainDone.bit) })) ∧
      ((∀ d, s.mirror.drain = .appended d → m.drain = false ∨ m.seq ≠ d.seq) →
        exec .mirrorAckReport s = .next (checkSynced { s with
          reports.mirrorAcks := rest, mirror.lastAckedMark := m.number, causes := s.raised .markAcked })))) ∧
  (∀ (m : RemovedMark) (ms : List RemovedMark) (rest : List (List RemovedMark)) (s : State), s.porst = false →
    s.mirror.pendingMark = none → s.reports.mirrorAcks = (m :: ms) :: rest →
    ∀ last, (m :: ms).getLast? = some last →
      (∀ d, s.mirror.drain = .appended d → (∃ q ∈ m :: ms, q.drain = true ∧ q.seq = d.seq) →
        exec .mirrorAckReport s = .next (checkSynced { s with
          reports.mirrorAcks := rest
          mirror := { s.mirror with
            lastAckedMark := last.number, drained := true, drainConsistent := d.consistent, drain := .clear }
          causes := s.raised .markAcked ||| (1#13 <<< Cause.drainDone.bit) })) ∧
      ((∀ d, s.mirror.drain = .appended d → ∀ q ∈ m :: ms, q.drain = false ∨ q.seq ≠ d.seq) →
        exec .mirrorAckReport s = .next (checkSynced { s with
          reports.mirrorAcks := rest, mirror.lastAckedMark := last.number, causes := s.raised .markAcked }))) ∧
  (∀ s : State,
    (s.mirror.state = .resyncing ∧ s.dirty.count = 0 ∧ (∀ e ∈ s.journal.entries, ∀ n i st, e.body ≠ .block n i st) →
      checkSynced s = { s with mirror.state := .synced, causes := s.raised .synced }) ∧
    (¬ (s.mirror.state = .resyncing ∧ s.dirty.count = 0 ∧
        ∀ e ∈ s.journal.entries, ∀ n i st, e.body ≠ .block n i st) → checkSynced s = s)))

/-- A pending mark request is appended at an acknowledge-through report that finds room, after the report's MARKs
have been taken as without it, with its own number and drain flag; its consistent flag tells SYNCED with replica-
incomplete clear, and where the same report also makes the origin SYNCED the order of the two is open, so the flag
is that of either order (R107, R112, R113; log 8). That SYNCED counts until a waiting mark report is taken is the
model's choice (log 34). -/
def Obligations.PendingMarkIsAppendedAtReport : Prop :=
  ∀ (r : MarkRequest) (ms : List RemovedMark) (rest : List (List RemovedMark)) (s : State), s.porst = false →
    s.reports.mirrorAcks = ms :: rest → s.mirror.pendingMark = some r →
    (512 ≤ s.journal.entries.length → ∃ t, exec .mirrorAckReport s = .next t ∧ t.journal = s.journal ∧
      t.mirror.pendingMark = some r) ∧
    (∃ t, exec .mirrorAckReport s = .next t ∧ t.reports = { s.reports with mirrorAcks := rest } ∧
      (ms = [] → t.mirror.lastAckedMark = s.mirror.lastAckedMark) ∧
      (∀ last, ms.getLast? = some last → t.mirror.lastAckedMark = last.number ∧ t.hasCause .markAcked = true) ∧
      (∀ d, s.mirror.drain = .appended d → (∃ q ∈ ms, q.drain = true ∧ q.seq = d.seq) →
        t.mirror.drained = true ∧ t.mirror.drainConsistent = d.consistent ∧ t.hasCause .drainDone = true ∧
        (r.drain = false ∨ 512 ≤ s.journal.entries.length → t.mirror.drain = .clear)) ∧
      ((∀ d, s.mirror.drain = .appended d → ∀ q ∈ ms, q.drain = false ∨ q.seq ≠ d.seq) →
        t.mirror.drained = s.mirror.drained ∧ t.mirror.drainConsistent = s.mirror.drainConsistent ∧
        (r.drain = false ∨ 512 ≤ s.journal.entries.length → t.mirror.drain = s.mirror.drain))) ∧
    (s.journal.entries.length < 512 → ∃ t c, exec .mirrorAckReport s = .next t ∧ t.mirror.pendingMark = none ∧
      t.journal = { s.journal with
        entries := s.journal.entries ++ [⟨s.journal.nextSeq, false, .mark r.number c r.drain⟩]
        nextSeq := s.journal.nextSeq + 1 } ∧
      (r.drain = true → t.mirror.drain = .appended ⟨s.journal.nextSeq, c⟩) ∧
      (s.readyForSynced = false → c = decide (s.mirror.state = .synced ∧ s.mirror.incomplete = false) ∧
        t.mirror.state = s.mirror.state ∧ t.choices = s.choices) ∧
      (s.readyForSynced = true → (c = false ∨ c = !s.mirror.incomplete) ∧ t.mirror.state = .synced ∧
        t.hasCause .synced = true))

/-- SYNC is high in the origin exactly while the state is SYNCED and replica-incomplete is clear, and then a mark
takes the consistent flag; it is low after PORST and SOFT_RESET and kept through SRST; in the replica it is the
coherent flag (R118). -/
def Obligations.SyncOutputFollowsStateAndFlag : Prop :=
  (∀ s : State, s.role = .origin → (s.sync = true ↔ s.mirror.state = .synced ∧ s.mirror.incomplete = false)) ∧
  (∀ s : State, s.role = .replica → s.sync = s.apply.coherent) ∧
  (∀ s : State, s.role = .origin → s.sync = true → s.markConsistent = true) ∧
  (∀ s : State, ∃ t, exec .porstAssert s = .next t ∧ t.sync = false) ∧
  (∀ (pins : RequestPins) (selected : Bool) (s : State), s.porst = false → s.sp.resetPending = true →
    ∃ t, exec (.softResetTaken pins selected) s = .next t ∧ t.sync = false) ∧
  (∀ s : State, ∃ t u, exec .srstAssert s = .next t ∧ exec .srstDeassert s = .next u ∧ t.sync = s.sync ∧ u.sync = s.sync)

/-! ### What every step keeps -/

/-- Every step keeps the form of the journal (at most 512 entries, consecutive numbers, the sent ones a run from
the head) and the configuration fields in their ranges (R4, R9, R11, R20, R152, R184). Every step keeps WRITE
entries in form: a line address, and 0 in the bytes whose mask bit is clear (R5). -/
def Obligations.StepsKeepJournalForm : Prop :=
  (∀ s t : State, step s = .next t → s.journal.wf = true → s.cfg.inRange = true →
    t.journal.wf = true ∧ t.cfg.inRange = true) ∧
  (∀ s t : State, step s = .next t → s.journal.writesWf = true → t.journal.writesWf = true)

/-- Every step keeps the form of the dirty map, so that the dirty count is always the number of set bits (R28). -/
def Obligations.StepsKeepDirtyCount : Prop :=
  ∀ s t : State, step s = .next t → s.dirty.wf = true → t.dirty.wf = true

/-- Every step keeps the agreement of roles, mirror states and link: an origin streams only with the link UP;
outside RESYNCING and SYNCED its journal is empty and nothing is held, waiting or draining; a replica applies
exactly in UP and has session 0 outside (R97, R103, R139, R162, R193). -/
def Obligations.StepsKeepStatesInAgreement : Prop :=
  ∀ s t : State, step s = .next t → s.statesOk = true → t.statesOk = true

/-- Every step keeps each copy buffer owned exactly while one BLOCK entry of the journal names it, so that BLOCK
entries and owned buffers are equally many, at most four (R78). Every step keeps at most four frames in the receive
slots, each with the bytes it was received as, which pass every check, and a WRITE or READY BLOCK frame at their
head while the apply engine has one in hand (R129, R133, R134, R167). -/
def Obligations.StepsKeepBuffersAndSlots : Prop :=
  (∀ s t : State, step s = .next t → s.buffersOk = true → t.buffersOk = true) ∧
  (∀ s t : State, step s = .next t → s.slotsOk = true → t.slotsOk = true)

/-- Every step keeps the two ports in agreement: a transaction in AT_MEMORY waits at the memory port or is at
memory, as the master gave it, a FREE port has no request waiting, and the engine's request is not the system
port's (R42, R65, R68, R69). -/
def Obligations.StepsKeepPortsInAgreement : Prop :=
  ∀ s t : State, step s = .next t → s.portsOk = true → t.portsOk = true

/-- Every step keeps what goes with the link state: the link enable, the receiver hunting, the slot empty and the
line at rest with no break pending in OFF, the data buffer empty outside UP, the silence timer running exactly in
UP, the receiver hunting in a run of space that was reported, and none reported in OFF (R119, R124, R128, R129,
R135, R137, R149). Every step keeps the in-flight count within the window (R150), in states of well-formed journals
and agreeing states, which every step keeps as well. -/
def Obligations.StepsKeepLinkPartsAndWindow : Prop :=
  (∀ s t : State, step s = .next t → s.linkOk = true → t.linkOk = true) ∧
  (∀ s t : State, step s = .next t → s.journal.wf = true → s.statesOk = true → s.windowOk = true → t.windowOk = true)

/-- Every step keeps the meaning of SYNCED: no BLOCK entry in the journal, and the map empty unless the report of a
mark that set a bit is on its way (R101, R102), in states whose map is well formed and whose states agree. -/
def Obligations.StepsKeepWhatSyncedMeans : Prop :=
  ∀ s t : State, step s = .next t → s.dirty.wf = true → s.statesOk = true → s.syncedOk = true → t.syncedOk = true

/-- While a replica is LISTENING or APPLYING no step grants memory a system write to an address its table mirrors,
and none comes to wait for a grant: a system write newly at memory was not mirrored (R59, R60). -/
def Obligations.FencedWritesNeverReachMemory : Prop :=
  ∀ s t : State, step s = .next t → s.portsOk = true → s.statesOk = true → s.fenceOk = true →
    t.fenceOk = true ∧
    (s.fencing = true → t.fencing = true → ∀ m, t.mem.systemAtMemory = some m → s.mem.systemAtMemory ≠ some m →
      m.kind.isWrite = true → t.mirrored m.address = false)

/-- A mirrored write that memory answers OK in an origin that is not DISABLED is accounted for in that same step:
its block is dirty, or its bytes stand in the tail WRITE entry of its line, or it is held (R49, R50, R108). -/
def Obligations.CapturedWriteIsAccountedFor : Prop :=
  ∀ (m : MemTransaction) (w : Transaction) (oks : List MemAnswer) (data : Line) (s : State), MemAnswer.error ∉ oks →
    s.mem.phase = .busy m .passed → m.owner = .system → s.sys.phase = .atMemory w → w.kind.isWrite = true → s.role = .origin → s.mirror.state ≠ .disabled →
    s.mirrored w.address = true →
    ∃ t, exec (.systemMemoryAnswer oks data) s = .next t ∧
      (blockOf w.address ∈ t.dirty.blocks ∨
        (∃ e mask' data', t.journal.entries.getLast? = some e ∧ e.body = .write (lineAddress w.address) mask' data' ∧
          ∀ k, k < 16 → (captureMask w).getLsbD k = true →
            mask'.getLsbD k = true ∧ lineByte data' k = lineByte (captureData w) k) ∨
        t.sys.phase = .held { w with lookup := some true })

end
end

