-- ==== Sys2Proof/Laws/DirtyMap.lean ====
section
/-! SUPPORT. What each operation of the dirty map does to its bits, its count and its cursor (R28 to R40). -/

namespace Sys2Proof.Machine

/-- Blocks in strictly rising order. -/
abbrev Rising (bs : List Block) : Prop := bs.Pairwise (fun a b => a.toNat < b.toNat)

theorem mem_insertBlock (b c : Block) (bs : List Block) : c ∈ insertBlock b bs ↔ c = b ∨ c ∈ bs := by
  induction bs with
  | nil => simp [insertBlock]
  | cons d ds ih =>
    unfold insertBlock
    split
    · simp
    · split
      · rename_i h; simp [h]
      · simp only [List.mem_cons, ih]; tauto

theorem rising_insertBlock (b : Block) (bs : List Block) (h : Rising bs) : Rising (insertBlock b bs) := by
  induction bs with
  | nil => simp [insertBlock, Rising]
  | cons d ds ih =>
    unfold insertBlock
    have h' := List.pairwise_cons.mp h
    split
    · rename_i hb
      refine List.pairwise_cons.mpr ⟨fun c hc => ?_, h⟩
      rcases List.mem_cons.mp hc with rfl | hc
      · exact hb
      · exact lt_trans hb (h'.1 c hc)
    · split
      · exact h
      · rename_i h1 h2
        refine List.pairwise_cons.mpr ⟨fun c hc => ?_, ih h'.2⟩
        rcases (mem_insertBlock b c ds).mp hc with rfl | hc
        · have : d.toNat ≠ c.toNat := fun hh => h2 (BitVec.eq_of_toNat_eq hh.symm)
          omega
        · exact h'.1 c hc

theorem length_insertBlock (b : Block) (bs : List Block) (h : b ∉ bs) :
    (insertBlock b bs).length = bs.length + 1 := by
  induction bs with
  | nil => simp [insertBlock]
  | cons d ds ih =>
    simp only [List.mem_cons, not_or] at h
    unfold insertBlock
    split
    · simp
    · rw [if_neg h.1]; simp [ih h.2]

theorem mem_foldr_insertBlock (c : Block) (as bs : List Block) : c ∈ as.foldr insertBlock bs ↔ c ∈ as ∨ c ∈ bs := by
  induction as with
  | nil => simp
  | cons a as ih => simp [mem_insertBlock, ih, or_assoc]

theorem rising_foldr_insertBlock (as bs : List Block) (h : Rising bs) : Rising (as.foldr insertBlock bs) := by
  induction as with
  | nil => simpa using h
  | cons a as ih => exact rising_insertBlock _ _ ih

theorem DirtyMap.wf_iff (m : DirtyMap) : m.wf = true ↔ Rising m.blocks ∧ m.count = m.blocks.length := by
  simp [DirtyMap.wf, Rising]

theorem DirtyMap.wf_empty : DirtyMap.empty.wf = true := by simp [DirtyMap.wf_iff, DirtyMap.empty, Rising]

/-- The set bits after a mark (R32). -/
theorem DirtyMap.mem_mark (b c : Block) (m : DirtyMap) : c ∈ (m.mark b).blocks ↔ c = b ∨ c ∈ m.blocks := by
  unfold DirtyMap.mark
  split
  · rename_i h
    constructor
    · exact Or.inr
    · rintro (rfl | h') <;> assumption
  · exact mem_insertBlock b c m.blocks

/-- A mark leaves the cursor where it is (R29, R32). -/
@[simp] theorem DirtyMap.mark_cursor (b : Block) (m : DirtyMap) : (m.mark b).cursor = m.cursor := by
  unfold DirtyMap.mark; split <;> rfl

/-- A mark counts a block that was clear, and only such a block (R32). -/
theorem DirtyMap.mark_count (b : Block) (m : DirtyMap) :
    (m.mark b).count = if b ∈ m.blocks then m.count else m.count + 1 := by
  unfold DirtyMap.mark; split <;> rfl

/-- A mark keeps the form of the map (R28). -/
theorem DirtyMap.wf_mark (b : Block) (m : DirtyMap) (h : m.wf = true) : (m.mark b).wf = true := by
  rw [DirtyMap.wf_iff] at h ⊢
  unfold DirtyMap.mark
  split
  · exact h
  · rename_i hb
    exact ⟨rising_insertBlock _ _ h.1, by simp [length_insertBlock _ _ hb, h.2]⟩

/-- A seed keeps the form of the map (R28, R35). -/
theorem DirtyMap.wf_seed (table : List Region) (m : DirtyMap) (h : m.wf = true) : (m.seed table).wf = true := by
  rw [DirtyMap.wf_iff] at h ⊢
  exact ⟨rising_foldr_insertBlock _ _ h.1, rfl⟩

theorem DirtyMap.next_mem (m : DirtyMap) (b : Block) (h : m.next = some b) : b ∈ m.blocks := by
  unfold DirtyMap.next at h
  split at h
  · rename_i c hc
    obtain rfl := Option.some.inj h
    exact List.mem_of_find?_eq_some hc
  · exact List.mem_of_head? h

/-- A take-next finds nothing exactly in an empty map (R37, R39). -/
theorem DirtyMap.takeNext_none (m : DirtyMap) : m.takeNext = none ↔ m.blocks = [] := by
  unfold DirtyMap.takeNext DirtyMap.next
  cases hb : m.blocks with
  | nil => simp
  | cons c cs =>
    simp only [reduceCtorEq, iff_false]
    split
    · simp
    · rename_i h; split at h <;> simp_all

theorem length_filter_ne (b : Block) (bs : List Block) (hn : Rising bs) (hb : b ∈ bs) :
    (bs.filter (fun c => c != b)).length = bs.length - 1 := by
  have hnd : bs.Nodup := hn.imp fun h hh => by subst hh; omega
  have : (bs.filter (fun c => c != b)) = bs.erase b := (hnd.erase_eq_filter b).symm
  rw [this, List.length_erase_of_mem hb]

/-- What a take-next that finds a block does (R37): the block was dirty, its bit alone is cleared, the count
falls by one, and the cursor lies past it. -/
theorem DirtyMap.takeNext_some (m n : DirtyMap) (b : Block) (h : m.takeNext = some (b, n)) :
    m.next = some b ∧ b ∈ m.blocks ∧ n.blocks = m.blocks.filter (fun c => c != b) ∧ n.count = m.count - 1 ∧
      n.cursor = b + 1 := by
  unfold DirtyMap.takeNext at h
  split at h
  · rename_i c hc
    simp only [Option.some.injEq, Prod.mk.injEq] at h
    obtain ⟨rfl, rfl⟩ := h
    exact ⟨hc, m.next_mem _ hc, rfl, rfl, rfl⟩
  · exact absurd h (by simp)

/-- A take-next keeps the form of the map (R28, R37). -/
theorem DirtyMap.wf_takeNext (m n : DirtyMap) (b : Block) (h : m.wf = true) (ht : m.takeNext = some (b, n)) :
    n.wf = true := by
  rw [DirtyMap.wf_iff] at h ⊢
  obtain ⟨-, hb, h1, h2, -⟩ := m.takeNext_some n b ht
  rw [h1, h2, h.2, length_filter_ne b _ h.1 hb]
  exact ⟨h.1.filter _, rfl⟩

/-! ### The region table's lookup and the seed -/

theorem mem_blockRun (lo n : Nat) (b : Block) (h : lo + n ≤ 65536) :
    b ∈ blockRun lo n ↔ lo ≤ b.toNat ∧ b.toNat < lo + n := by
  simp only [blockRun, List.mem_map, List.mem_range'_1]
  constructor
  · rintro ⟨x, ⟨h1, h2⟩, rfl⟩
    rw [BitVec.toNat_ofNat, Nat.mod_eq_of_lt (by omega)]
    exact ⟨h1, h2⟩
  · intro ⟨h1, h2⟩
    exact ⟨b.toNat, ⟨h1, h2⟩, by simp⟩

/-- The blocks listed for a seed are those that lookup finds mirrored (R35, R46). -/
theorem mem_mirroredBlocks (b : Block) (table : List Region) : b ∈ mirroredBlocks table ↔ lookupBlock table b = true := by
  induction table with
  | nil => simp [mirroredBlocks, lookupBlock]
  | cons r rs ih =>
    have hl : lookupBlock (r :: rs) b = if r.contains b then r.mode == .mirror else lookupBlock rs b := by
      unfold lookupBlock
      rw [List.find?_cons]
      cases hc : r.contains b <;> simp
    have hrun : b ∈ blockRun r.base.toNat (r.limit.toNat + 1 - r.base.toNat) ↔
        r.base.toNat ≤ b.toNat ∧ b.toNat ≤ r.limit.toNat := by
      have h1 := r.limit.isLt
      have h2 := r.base.isLt
      by_cases hle : r.base.toNat ≤ r.limit.toNat
      · rw [mem_blockRun _ _ _ (by omega)]; omega
      · rw [show r.limit.toNat + 1 - r.base.toNat = 0 by omega]
        simp [blockRun]; omega
    have hc : r.contains b = true ↔ r.enable = true ∧ r.base.toNat ≤ b.toNat ∧ b.toNat ≤ r.limit.toNat := by
      simp [Region.contains, and_assoc]
    rw [hl]
    unfold mirroredBlocks
    by_cases hm : (r.enable && r.mode == .mirror) = true
    · simp only [hm, if_true, mem_foldr_insertBlock, List.mem_filter, ih, hrun]
      simp only [Bool.and_eq_true] at hm
      by_cases hcb : r.contains b = true
      · simp [hcb, hm.2, (hc.mp hcb).2]
      · have : ¬ (r.base.toNat ≤ b.toNat ∧ b.toNat ≤ r.limit.toNat) := fun hh => hcb (hc.mpr ⟨hm.1, hh⟩)
        simp [hcb, this]
    · rw [if_neg hm]
      simp only [List.mem_filter, ih]
      by_cases hcb : r.contains b = true
      · have : (r.mode == RegionMode.mirror) = false := by
          simp only [Bool.and_eq_true, not_and, Bool.not_eq_true] at hm
          exact hm (hc.mp hcb).1
        simp [hcb, this]
      · simp [hcb]

/-- The set bits after a seed (R35). -/
theorem DirtyMap.mem_seed (table : List Region) (m : DirtyMap) (b : Block) :
    b ∈ (m.seed table).blocks ↔ lookupBlock table b = true ∨ b ∈ m.blocks := by
  simp only [DirtyMap.seed, mem_foldr_insertBlock, mem_mirroredBlocks]

/-! ### Marks of a spill -/

/-- The marks of a spill keep the form of the map (R25, R28). -/
theorem wf_spillMarks (es : List Entry) (m : DirtyMap) (h : m.wf = true) : (spillMarks es m).wf = true := by
  unfold spillMarks
  induction es generalizing m with
  | nil => simpa using h
  | cons e es ih =>
    simp only [List.foldl_cons]
    refine ih _ ?_
    split
    · exact DirtyMap.wf_mark _ _ h
    · exact h

/-- The set bits after a spill: those before it and the blocks of its WRITE and BLOCK entries (R25). -/
theorem mem_spillMarks (es : List Entry) (m : DirtyMap) (b : Block) :
    b ∈ (spillMarks es m).blocks ↔ b ∈ m.blocks ∨ ∃ e ∈ es, e.spillBlock = some b := by
  unfold spillMarks
  induction es generalizing m with
  | nil => simp
  | cons e es ih =>
    simp only [List.foldl_cons]
    rw [ih]
    cases hs : e.spillBlock with
    | none => simp [hs]
    | some c =>
      simp only [DirtyMap.mem_mark, List.mem_cons, exists_eq_or_imp, hs, Option.some.injEq]
      constructor
      · rintro ((h | h) | h)
        · exact Or.inr (Or.inl h.symm)
        · exact Or.inl h
        · exact Or.inr (Or.inr h)
      · rintro (h | h | h)
        · exact Or.inl (Or.inr h)
        · exact Or.inl (Or.inl h.symm)
        · exact Or.inr h

end Sys2Proof.Machine
end

