-- ==== Sys2Proof/Laws/Frames.lean ====
section
/-! SUPPORT. Bytes of numbers, lines and frames: little-endian fields read back (spec/07, 7.2). -/

namespace Sys2Proof.Machine

@[simp] theorem leBytes_length (n x : Nat) : (leBytes n x).length = n := by
  induction n generalizing x with
  | zero => rfl
  | succ n ih => simp [leBytes, ih]

/-- The number that the low `n` bytes of a number spell. -/
theorem ofLeBytes_leBytes (n x : Nat) : ofLeBytes (leBytes n x) = x % 256 ^ n := by
  induction n generalizing x with
  | zero => simp [leBytes, ofLeBytes, Nat.mod_one]
  | succ n ih =>
    simp only [leBytes, ofLeBytes, ih, BitVec.toNat_ofNat]
    rw [show (256 : Nat) ^ (n + 1) = 256 * 256 ^ n by ring, Nat.mod_mul]

theorem ofLeBytes_leBytes_of_lt (n x : Nat) (h : x < 256 ^ n) : ofLeBytes (leBytes n x) = x := by
  rw [ofLeBytes_leBytes, Nat.mod_eq_of_lt h]

theorem ofLeBytes_lt (bs : List Byte) : ofLeBytes bs < 256 ^ bs.length := by
  induction bs with
  | nil => simp [ofLeBytes]
  | cons b bs ih =>
    have := b.isLt
    simp only [ofLeBytes, List.length_cons, pow_succ]
    omega

/-- A field read behind a prefix of its own length. -/
theorem fieldAt_append (xs ys zs : List Byte) (i n : Nat) (hi : xs.length = i) (hn : ys.length = n) :
    fieldAt (xs ++ (ys ++ zs)) i n = ofLeBytes ys := by
  unfold fieldAt
  rw [← hi, List.drop_left, ← hn, List.take_left]

/-- A field read further back. -/
theorem fieldAt_drop (xs ys : List Byte) (i n : Nat) (h : xs.length ≤ i) :
    fieldAt (xs ++ ys) i n = fieldAt ys (i - xs.length) n := by
  unfold fieldAt
  rw [List.drop_append, List.drop_eq_nil_of_le h, List.nil_append]

end Sys2Proof.Machine
end

