-- ==== Sys2Proof/Laws/Journal.lean ====
section
/-! SUPPORT. What each operation of the journal does to its form (R4, R9, R11, R20, R152). -/

namespace Sys2Proof.Machine

/-! ### Consecutive numbers -/

theorem consecutive_drop (next : Seq) (es : List Entry) (n : Nat) (h : consecutive next es = true) :
    consecutive next (es.drop n) = true := by
  induction es generalizing n with
  | nil => simpa using h
  | cons e es ih =>
    cases n with
    | zero => simpa using h
    | succ n =>
      simp only [consecutive, Bool.and_eq_true] at h
      simpa using ih n h.2

theorem consecutive_append (next : Seq) (es : List Entry) (e : Entry) (h : consecutive next es = true)
    (he : e.seq = next) : consecutive (next + 1) (es ++ [e]) = true := by
  induction es with
  | nil => simp [consecutive, he]
  | cons f fs ih =>
    simp only [consecutive, Bool.and_eq_true, beq_iff_eq] at h
    simp only [List.cons_append, consecutive, Bool.and_eq_true, beq_iff_eq, List.length_append,
      List.length_singleton, ih h.2, and_true, h.1]
    have : BitVec.ofNat 32 (fs.length + 1 + 1) = BitVec.ofNat 32 (fs.length + 1) + 1#32 := by
      simp [BitVec.ofNat_add]
    rw [this]
    bv_omega

theorem consecutive_map (next : Seq) (es : List Entry) (f : Entry → Entry) (hf : ∀ e, (f e).seq = e.seq)
    (h : consecutive next es = true) : consecutive next (es.map f) = true := by
  induction es with
  | nil => rfl
  | cons e es ih =>
    simp only [consecutive, Bool.and_eq_true, beq_iff_eq] at h
    simp [consecutive, hf, h.1, ih h.2]

theorem consecutive_modify (next : Seq) (es : List Entry) (f : Entry → Entry) (hf : ∀ e, (f e).seq = e.seq)
    (n : Nat) (h : consecutive next es = true) : consecutive next (es.modify n f) = true := by
  induction es generalizing n with
  | nil => simp [consecutive]
  | cons e es ih =>
    simp only [consecutive, Bool.and_eq_true, beq_iff_eq] at h
    cases n with
    | zero => simp [consecutive, hf, h.1, h.2]
    | succ n => simp [consecutive, h.1, ih n h.2]

/-- The entry at a position carries the number its place gives it (R4, R12). -/
theorem consecutive_getElem (next : Seq) (es : List Entry) (h : consecutive next es = true) (i : Nat)
    (hi : i < es.length) : es[i].seq = next - BitVec.ofNat 32 (es.length - i) := by
  induction es generalizing i with
  | nil => simp at hi
  | cons e es ih =>
    simp only [consecutive, Bool.and_eq_true, beq_iff_eq] at h
    cases i with
    | zero => simp [h.1]
    | succ i =>
      simp only [List.length_cons, List.getElem_cons_succ] at hi ⊢
      rw [ih h.2 i (by omega)]
      congr 2
      omega

/-! ### The run of sent entries -/

theorem sentRun_drop (es : List Entry) (n : Nat) (h : sentRun es = true) : sentRun (es.drop n) = true := by
  induction es generalizing n with
  | nil => simpa using h
  | cons e es ih =>
    cases n with
    | zero => simpa using h
    | succ n =>
      simp only [sentRun, Bool.and_eq_true] at h
      simpa using ih n h.2

theorem sentRun_append (es : List Entry) (e : Entry) (h : sentRun es = true) (he : e.sentOnce = false) :
    sentRun (es ++ [e]) = true := by
  induction es with
  | nil => simp [sentRun]
  | cons f fs ih =>
    simp only [sentRun, Bool.and_eq_true, Bool.or_eq_true, List.all_eq_true] at h
    simp only [List.cons_append, sentRun, Bool.and_eq_true, Bool.or_eq_true, List.all_eq_true, ih h.2, and_true]
    rcases h.1 with h1 | h1
    · exact Or.inl h1
    · refine Or.inr fun g hg => ?_
      simp only [List.mem_append, List.mem_singleton] at hg
      rcases hg with hg | rfl
      · exact h1 g hg
      · simp [he]

theorem all_map_sent (es : List Entry) (f : Entry → Entry) (hf : ∀ e, (f e).sentOnce = e.sentOnce) :
    (es.map f).all (fun e => e.sentOnce) = es.all (fun e => e.sentOnce) := by
  simp [List.all_map, Function.comp_def, hf]

theorem sentRun_map (es : List Entry) (f : Entry → Entry) (hf : ∀ e, (f e).sentOnce = e.sentOnce) :
    sentRun (es.map f) = sentRun es := by
  induction es with
  | nil => rfl
  | cons e es ih => simp [sentRun, hf, ih, List.all_map, Function.comp_def]

theorem sentRun_all (es : List Entry) (n : Nat) (h : sentRun es = true)
    (hn : (es.take n).all (fun e => e.sentOnce) = true) :
    sentRun (es.modify n (fun e => { e with sentOnce := true })) = true := by
  induction es generalizing n with
  | nil => simp [sentRun]
  | cons e es ih =>
    simp only [sentRun, Bool.and_eq_true] at h
    cases n with
    | zero => simp [sentRun, h.2]
    | succ n =>
      simp only [List.take_succ_cons, List.all_cons, Bool.and_eq_true] at hn
      simp [sentRun, hn.1, ih n h.2 hn.2]

/-! ### The form of the journal -/

theorem Journal.wf_iff (j : Journal) : j.wf = true ↔
    j.entries.length ≤ Sys2Proof.Config.journalCapacity ∧ j.sendPoint ≤ j.entries.length ∧
      consecutive j.nextSeq j.entries = true ∧ (j.entries.take j.sendPoint).all (fun e => e.sentOnce) = true ∧
      sentRun j.entries = true ∧ j.entries.all (fun e => !(e.sentOnce && e.isReading)) = true := by
  simp only [Journal.wf, Bool.and_eq_true, decide_eq_true_eq, and_assoc]

/-- An empty journal has the form, whatever its counters. -/
theorem Journal.wf_empty (next acked : Seq) : (Journal.mk [] 0 next acked).wf = true := by
  simp [Journal.wf_iff, consecutive, sentRun]

theorem Journal.wf_reset : Journal.reset.wf = true := Journal.wf_empty 1 0

theorem Journal.wf_emptied (j : Journal) : j.emptied.wf = true := Journal.wf_empty _ _

/-- The step that adds an entry, below 512, keeps the form (R13, R16). -/
theorem Journal.wf_push (body : EntryBody) (j : Journal) (h : j.wf = true) (hf : j.full = false) :
    (j.push body).wf = true := by
  rw [Journal.wf_iff] at h ⊢
  obtain ⟨h1, h2, h3, h4, h5, h6⟩ := h
  replace hf : j.entries.length < Sys2Proof.Config.journalCapacity :=
    Nat.lt_of_not_le (of_decide_eq_false hf)
  simp only [Journal.push, List.length_append, List.length_singleton]
  refine ⟨hf, by omega, consecutive_append _ _ _ h3 rfl, ?_, sentRun_append _ _ h5 rfl, ?_⟩
  · rw [List.take_append_of_le_length h2]; exact h4
  · simp only [List.all_append, h6, Bool.true_and]; simp

/-- Entries changed in place, in all but their sent-once flags and numbers, keep the form, as long as no sent
entry turns READING. -/
theorem Journal.wf_map (j : Journal) (f : Entry → Entry) (hs : ∀ e, (f e).seq = e.seq)
    (ho : ∀ e, (f e).sentOnce = e.sentOnce) (hr : ∀ e, (f e).isReading = true → e.isReading = true)
    (h : j.wf = true) : { j with entries := j.entries.map f }.wf = true := by
  rw [Journal.wf_iff] at h ⊢
  obtain ⟨h1, h2, h3, h4, h5, h6⟩ := h
  refine ⟨by simpa using h1, by simpa using h2, consecutive_map _ _ _ hs h3, ?_, by rw [sentRun_map _ _ ho]; exact h5, ?_⟩
  · rw [← List.map_take, all_map_sent _ _ ho]; exact h4
  · simp only [List.all_map, List.all_eq_true, Function.comp_apply, Bool.not_eq_true', Bool.and_eq_false_iff] at h6 ⊢
    intro e he
    rw [ho]
    rcases h6 e he with hh | hh
    · exact Or.inl hh
    · refine Or.inr ?_
      by_contra hc
      rw [hr e (by simpa using hc)] at hh
      exact absurd hh (by simp)

theorem completeEntry_keeps (seq : Seq) (b : Fin 4) (st : CopyStatus) (e : Entry) :
    (completeEntry seq b st e).seq = e.seq ∧ (completeEntry seq b st e).sentOnce = e.sentOnce := by
  unfold completeEntry
  split
  · split <;> simp
  · simp

/-- Complete block keeps the form (R17). -/
theorem Journal.wf_completeBlock (seq : Seq) (b : Fin 4) (st : CopyStatus) (j : Journal) (h : j.wf = true) :
    (j.completeBlock seq b st).wf = true := by
  refine Journal.wf_map j _ (fun e => (completeEntry_keeps seq b st e).1) (fun e => (completeEntry_keeps seq b st e).2) ?_ h
  intro e
  unfold completeEntry
  split
  · intro _; simp_all [Entry.isReading]
  · exact id

/-- One entry changed in place as in `Journal.wf_map`. -/
theorem Journal.wf_modify (j : Journal) (n : Nat) (f : Entry → Entry) (hs : ∀ e, (f e).seq = e.seq)
    (ho : ∀ e, (f e).sentOnce = e.sentOnce) (hr : ∀ e, (f e).isReading = e.isReading)
    (h : j.wf = true) : { j with entries := j.entries.modify n f }.wf = true := by
  rw [Journal.wf_iff] at h ⊢
  obtain ⟨h1, h2, h3, h4, h5, h6⟩ := h
  have key : ∀ (es : List Entry) (n : Nat),
      ((es.modify n f).map (fun e => (e.sentOnce, e.isReading))) = es.map (fun e => (e.sentOnce, e.isReading)) := by
    intro es
    induction es with
    | nil => simp
    | cons e es ih => intro n; cases n <;> simp [ho, hr, ih]
  have hall : ∀ (p : Bool × Bool → Bool) (es fs : List Entry),
      es.map (fun e => (e.sentOnce, e.isReading)) = fs.map (fun e => (e.sentOnce, e.isReading)) →
      es.all (fun e => p (e.sentOnce, e.isReading)) = fs.all (fun e => p (e.sentOnce, e.isReading)) := by
    intro p es fs hh
    have := congrArg (fun l => List.all l p) hh
    simpa [List.all_map, Function.comp_def] using this
  have hrun : ∀ (es fs : List Entry),
      es.map (fun e => (e.sentOnce, e.isReading)) = fs.map (fun e => (e.sentOnce, e.isReading)) →
      sentRun es = sentRun fs := by
    intro es
    induction es with
    | nil => intro fs hh; cases fs <;> simp_all
    | cons e es ih =>
      intro fs hh
      cases fs with
      | nil => simp at hh
      | cons g gs =>
        simp only [List.map_cons, List.cons.injEq, Prod.mk.injEq] at hh
        have := hall (fun q => !q.1) es gs hh.2
        simp only at this
        simp [sentRun, hh.1.1, ih gs hh.2, this]
  refine ⟨by simpa using h1, by simpa using h2, consecutive_modify _ _ _ hs _ h3, ?_, ?_, ?_⟩
  · have := hall (fun q => q.1) ((j.entries.modify n f).take j.sendPoint) (j.entries.take j.sendPoint)
      (by rw [List.map_take, key, List.map_take])
    simp only at this ⊢
    rw [this]; exact h4
  · rw [hrun _ _ (key j.entries n)]; exact h5
  · have := hall (fun q => !(q.1 && q.2)) _ _ (key j.entries n)
    simp only at this
    rw [this]; exact h6

theorem mergeEntry_keeps (mask : Mask) (data : Line) (e : Entry) :
    (mergeEntry mask data e).seq = e.seq ∧ (mergeEntry mask data e).sentOnce = e.sentOnce ∧
      (mergeEntry mask data e).isReading = e.isReading := by
  unfold mergeEntry
  split <;> simp_all [Entry.isReading]

/-- Merge keeps the form (R14). -/
theorem Journal.wf_merge (mask : Mask) (data : Line) (j : Journal) (h : j.wf = true) :
    (j.merge mask data).wf = true :=
  Journal.wf_modify j _ _ (fun e => (mergeEntry_keeps mask data e).1) (fun e => (mergeEntry_keeps mask data e).2.1)
    (fun e => (mergeEntry_keeps mask data e).2.2) h

theorem take_modify_sent (es : List Entry) (n : Nat) (h : (es.take n).all (fun e => e.sentOnce) = true) :
    ((es.modify n (fun e => { e with sentOnce := true })).take (n + 1)).all (fun e => e.sentOnce) = true := by
  induction es generalizing n with
  | nil => simp
  | cons e es ih =>
    cases n with
    | zero => simp
    | succ n =>
      simp only [List.take_succ_cons, List.all_cons, Bool.and_eq_true] at h
      simp only [List.modify_succ_cons, List.take_succ_cons, List.all_cons, h.1, Bool.true_and]
      exact ih n h.2

/-- A load of an entry that is not READING keeps the form (R18, R20). -/
theorem Journal.wf_loaded (j : Journal) (e : Entry) (h : j.wf = true) (he : j.entries[j.sendPoint]? = some e)
    (hr : e.isReading = false) : j.loaded.wf = true := by
  rw [Journal.wf_iff] at h ⊢
  obtain ⟨h1, h2, h3, h4, h5, h6⟩ := h
  have hlt : j.sendPoint < j.entries.length := by
    by_contra hc
    rw [List.getElem?_eq_none (by omega)] at he
    exact absurd he (by simp)
  simp only [Journal.loaded]
  refine ⟨by simpa using h1, by simpa using hlt, consecutive_modify _ _ (fun e => { e with sentOnce := true }) (fun _ => rfl) _ h3, ?_,
    sentRun_all _ _ h5 h4, ?_⟩
  · exact take_modify_sent _ _ h4
  · rw [List.all_eq_true] at h6 ⊢
    intro f hf
    rw [List.mem_iff_getElem?] at hf
    obtain ⟨i, hi⟩ := hf
    rw [List.getElem?_modify] at hi
    by_cases hs : j.sendPoint = i
    · subst hs
      rw [he] at hi
      obtain rfl : { e with sentOnce := true } = f := by simpa using hi
      simp only [Entry.isReading] at hr ⊢
      simp [hr]
    · exact h6 f (List.mem_of_getElem? (by simpa [hs] using hi))

/-- What acknowledge-through removes is a run from the head. -/
theorem Journal.removedBy_length_le (n : Seq) (j : Journal) : (j.removedBy n).length ≤ j.entries.length := by
  unfold Journal.removedBy
  exact (List.takeWhile_prefix _).length_le

/-- Every entry that acknowledge-through removes has been sent (R21). -/
theorem Journal.removedBy_sent (n : Seq) (j : Journal) (e : Entry) (he : e ∈ j.removedBy n) : e.sentOnce = true := by
  unfold Journal.removedBy at he
  have := List.mem_takeWhile_imp he
  simp only [Entry.acknowledgedBy, Bool.and_eq_true] at this
  exact this.2

/-- Acknowledge-through keeps the form (R21). -/
theorem Journal.wf_acknowledged (n : Seq) (j : Journal) (h : j.wf = true) : (j.acknowledged n).wf = true := by
  rw [Journal.wf_iff] at h ⊢
  obtain ⟨h1, h2, h3, h4, h5, h6⟩ := h
  have hl := Journal.removedBy_length_le n j
  simp only [Journal.acknowledged, List.length_drop]
  refine ⟨by omega, by omega, consecutive_drop _ _ _ h3, ?_, sentRun_drop _ _ h5, ?_⟩
  · rw [List.all_eq_true] at h4 ⊢
    intro e he
    refine h4 e ?_
    rw [List.take_drop] at he
    have := List.mem_of_mem_drop he
    by_cases hc : (j.removedBy n).length ≤ j.sendPoint
    · rwa [show (j.removedBy n).length + (j.sendPoint - (j.removedBy n).length) = j.sendPoint by omega] at this
    · rw [show j.sendPoint - (j.removedBy n).length = 0 by omega, Nat.add_zero] at he
      simp at he
  · rw [List.all_eq_true] at h6 ⊢
    exact fun e he => h6 e (List.mem_of_mem_drop he)

/-- A send point moved back keeps the form (R23). -/
theorem Journal.wf_back (j : Journal) (p : Nat) (h : j.wf = true) (hp : p ≤ j.sendPoint) :
    { j with sendPoint := p }.wf = true := by
  rw [Journal.wf_iff] at h ⊢
  obtain ⟨h1, h2, h3, h4, h5, h6⟩ := h
  refine ⟨h1, by simp only; omega, h3, ?_, h5, h6⟩
  rw [List.all_eq_true] at h4 ⊢
  intro e he
  refine h4 e ?_
  have : j.entries.take p = (j.entries.take j.sendPoint).take p := by rw [List.take_take, Nat.min_eq_left hp]
  simp only at he
  rw [this] at he
  exact List.mem_of_mem_take he

/-- The youngest entry's number is one less than the counter, and the head's the counter less the occupancy (R12). -/
theorem Journal.headSeq_eq (j : Journal) (h : j.wf = true) :
    j.headSeq = j.nextSeq - BitVec.ofNat 32 j.occupancy := by
  rw [Journal.wf_iff] at h
  unfold Journal.headSeq Journal.occupancy
  cases hj : j.entries with
  | nil => simp
  | cons e es =>
    have := h.2.2.1
    rw [hj] at this
    simp only [consecutive, Bool.and_eq_true, beq_iff_eq] at this
    simp [this.1]

end Sys2Proof.Machine
end

