-- ==== Sys2Proof/Laws/State.lean ====
section
/-! SUPPORT. What each shared operation leaves unchanged: one lemma for each operation, which gives one simp
rule for each field of State that the operation keeps, so that no proof unfolds a record update. -/

namespace Sys2Proof.Machine

/-! ### Flags -/

/-- What `raise` leaves unchanged. -/
@[simp] theorem raise_keeps (c : Cause) (s : State) :
    (raise c s).role = s.role ∧ (raise c s).porst = s.porst ∧ (raise c s).srst = s.srst ∧
    (raise c s).markPin = s.markPin ∧ (raise c s).drainPin = s.drainPin ∧ (raise c s).sp = s.sp ∧
    (raise c s).control = s.control ∧ (raise c s).cfg = s.cfg ∧ (raise c s).enables = s.enables ∧
    (raise c s).counters = s.counters ∧ (raise c s).regions = s.regions ∧ (raise c s).sys = s.sys ∧
    (raise c s).mem = s.mem ∧ (raise c s).journal = s.journal ∧ (raise c s).dirty = s.dirty ∧
    (raise c s).copy = s.copy ∧ (raise c s).mirror = s.mirror ∧ (raise c s).link = s.link ∧
    (raise c s).tx = s.tx ∧ (raise c s).rx = s.rx ∧ (raise c s).apply = s.apply ∧
    (raise c s).reports = s.reports ∧ (raise c s).choices = s.choices ∧ (raise c s).pending = s.pending :=
  ⟨rfl, rfl, rfl, rfl, rfl, rfl, rfl, rfl, rfl, rfl, rfl, rfl, rfl, rfl, rfl, rfl, rfl, rfl, rfl, rfl, rfl, rfl, rfl, rfl⟩

/-- What `bump` leaves unchanged. -/
@[simp] theorem bump_keeps (c : Counter) (s : State) :
    (bump c s).role = s.role ∧ (bump c s).porst = s.porst ∧ (bump c s).srst = s.srst ∧
    (bump c s).markPin = s.markPin ∧ (bump c s).drainPin = s.drainPin ∧ (bump c s).sp = s.sp ∧
    (bump c s).control = s.control ∧ (bump c s).cfg = s.cfg ∧ (bump c s).causes = s.causes ∧
    (bump c s).enables = s.enables ∧ (bump c s).regions = s.regions ∧ (bump c s).sys = s.sys ∧
    (bump c s).mem = s.mem ∧ (bump c s).journal = s.journal ∧ (bump c s).dirty = s.dirty ∧
    (bump c s).copy = s.copy ∧ (bump c s).mirror = s.mirror ∧ (bump c s).link = s.link ∧
    (bump c s).tx = s.tx ∧ (bump c s).rx = s.rx ∧ (bump c s).apply = s.apply ∧
    (bump c s).reports = s.reports ∧ (bump c s).choices = s.choices ∧ (bump c s).pending = s.pending :=
  ⟨rfl, rfl, rfl, rfl, rfl, rfl, rfl, rfl, rfl, rfl, rfl, rfl, rfl, rfl, rfl, rfl, rfl, rfl, rfl, rfl, rfl, rfl, rfl, rfl⟩

/-- What `rxDiscard` leaves unchanged. -/
@[simp] theorem rxDiscard_keeps (c : Counter) (s : State) :
    (rxDiscard c s).role = s.role ∧ (rxDiscard c s).porst = s.porst ∧ (rxDiscard c s).srst = s.srst ∧
    (rxDiscard c s).markPin = s.markPin ∧ (rxDiscard c s).drainPin = s.drainPin ∧ (rxDiscard c s).sp = s.sp ∧
    (rxDiscard c s).control = s.control ∧ (rxDiscard c s).cfg = s.cfg ∧ (rxDiscard c s).enables = s.enables ∧
    (rxDiscard c s).regions = s.regions ∧ (rxDiscard c s).sys = s.sys ∧ (rxDiscard c s).mem = s.mem ∧
    (rxDiscard c s).journal = s.journal ∧ (rxDiscard c s).dirty = s.dirty ∧ (rxDiscard c s).copy = s.copy ∧
    (rxDiscard c s).mirror = s.mirror ∧ (rxDiscard c s).link = s.link ∧ (rxDiscard c s).tx = s.tx ∧
    (rxDiscard c s).rx = s.rx ∧ (rxDiscard c s).apply = s.apply ∧ (rxDiscard c s).reports = s.reports ∧
    (rxDiscard c s).choices = s.choices ∧ (rxDiscard c s).pending = s.pending :=
  ⟨rfl, rfl, rfl, rfl, rfl, rfl, rfl, rfl, rfl, rfl, rfl, rfl, rfl, rfl, rfl, rfl, rfl, rfl, rfl, rfl, rfl, rfl, rfl⟩

/-! ### Reports -/

/-- What `examineCopy` leaves unchanged. -/
@[simp] theorem examineCopy_keeps (s : State) :
    (examineCopy s).role = s.role ∧ (examineCopy s).porst = s.porst ∧ (examineCopy s).srst = s.srst ∧
    (examineCopy s).markPin = s.markPin ∧ (examineCopy s).drainPin = s.drainPin ∧ (examineCopy s).sp = s.sp ∧
    (examineCopy s).control = s.control ∧ (examineCopy s).cfg = s.cfg ∧ (examineCopy s).causes = s.causes ∧
    (examineCopy s).enables = s.enables ∧ (examineCopy s).counters = s.counters ∧ (examineCopy s).regions = s.regions ∧
    (examineCopy s).sys = s.sys ∧ (examineCopy s).mem = s.mem ∧ (examineCopy s).journal = s.journal ∧
    (examineCopy s).dirty = s.dirty ∧ (examineCopy s).mirror = s.mirror ∧ (examineCopy s).link = s.link ∧
    (examineCopy s).tx = s.tx ∧ (examineCopy s).rx = s.rx ∧ (examineCopy s).apply = s.apply ∧
    (examineCopy s).reports = s.reports ∧ (examineCopy s).choices = s.choices ∧ (examineCopy s).pending = s.pending := by
  unfold examineCopy
  (try dsimp only)
  (repeat' split) <;> simp

/-- What `markDirty` leaves unchanged. -/
@[simp] theorem markDirty_keeps (b : Block) (s : State) :
    (markDirty b s).role = s.role ∧ (markDirty b s).porst = s.porst ∧ (markDirty b s).srst = s.srst ∧
    (markDirty b s).markPin = s.markPin ∧ (markDirty b s).drainPin = s.drainPin ∧ (markDirty b s).sp = s.sp ∧
    (markDirty b s).control = s.control ∧ (markDirty b s).cfg = s.cfg ∧ (markDirty b s).causes = s.causes ∧
    (markDirty b s).enables = s.enables ∧ (markDirty b s).counters = s.counters ∧ (markDirty b s).regions = s.regions ∧
    (markDirty b s).sys = s.sys ∧ (markDirty b s).mem = s.mem ∧ (markDirty b s).journal = s.journal ∧
    (markDirty b s).copy = s.copy ∧ (markDirty b s).mirror = s.mirror ∧ (markDirty b s).link = s.link ∧
    (markDirty b s).tx = s.tx ∧ (markDirty b s).rx = s.rx ∧ (markDirty b s).apply = s.apply ∧
    (markDirty b s).choices = s.choices ∧ (markDirty b s).pending = s.pending :=
  ⟨rfl, rfl, rfl, rfl, rfl, rfl, rfl, rfl, rfl, rfl, rfl, rfl, rfl, rfl, rfl, rfl, rfl, rfl, rfl, rfl, rfl, rfl, rfl⟩

/-- What `markWithin` leaves unchanged. -/
@[simp] theorem markWithin_keeps (b : Block) (s : State) :
    (markWithin b s).role = s.role ∧ (markWithin b s).porst = s.porst ∧ (markWithin b s).srst = s.srst ∧
    (markWithin b s).markPin = s.markPin ∧ (markWithin b s).drainPin = s.drainPin ∧ (markWithin b s).sp = s.sp ∧
    (markWithin b s).control = s.control ∧ (markWithin b s).cfg = s.cfg ∧ (markWithin b s).causes = s.causes ∧
    (markWithin b s).enables = s.enables ∧ (markWithin b s).counters = s.counters ∧ (markWithin b s).regions = s.regions ∧
    (markWithin b s).sys = s.sys ∧ (markWithin b s).mem = s.mem ∧ (markWithin b s).journal = s.journal ∧
    (markWithin b s).copy = s.copy ∧ (markWithin b s).mirror = s.mirror ∧ (markWithin b s).link = s.link ∧
    (markWithin b s).tx = s.tx ∧ (markWithin b s).rx = s.rx ∧ (markWithin b s).apply = s.apply ∧
    (markWithin b s).reports = s.reports ∧ (markWithin b s).choices = s.choices ∧ (markWithin b s).pending = s.pending :=
  ⟨rfl, rfl, rfl, rfl, rfl, rfl, rfl, rfl, rfl, rfl, rfl, rfl, rfl, rfl, rfl, rfl, rfl, rfl, rfl, rfl, rfl, rfl, rfl, rfl⟩

/-- What `seedDirty` leaves unchanged. -/
@[simp] theorem seedDirty_keeps (s : State) :
    (seedDirty s).role = s.role ∧ (seedDirty s).porst = s.porst ∧ (seedDirty s).srst = s.srst ∧
    (seedDirty s).markPin = s.markPin ∧ (seedDirty s).drainPin = s.drainPin ∧ (seedDirty s).sp = s.sp ∧
    (seedDirty s).control = s.control ∧ (seedDirty s).cfg = s.cfg ∧ (seedDirty s).causes = s.causes ∧
    (seedDirty s).enables = s.enables ∧ (seedDirty s).counters = s.counters ∧ (seedDirty s).regions = s.regions ∧
    (seedDirty s).sys = s.sys ∧ (seedDirty s).mem = s.mem ∧ (seedDirty s).journal = s.journal ∧
    (seedDirty s).copy = s.copy ∧ (seedDirty s).mirror = s.mirror ∧ (seedDirty s).link = s.link ∧
    (seedDirty s).tx = s.tx ∧ (seedDirty s).rx = s.rx ∧ (seedDirty s).apply = s.apply ∧
    (seedDirty s).reports = s.reports ∧ (seedDirty s).choices = s.choices ∧ (seedDirty s).pending = s.pending :=
  ⟨rfl, rfl, rfl, rfl, rfl, rfl, rfl, rfl, rfl, rfl, rfl, rfl, rfl, rfl, rfl, rfl, rfl, rfl, rfl, rfl, rfl, rfl, rfl, rfl⟩

/-- What `checkSynced` leaves unchanged. -/
@[simp] theorem checkSynced_keeps (s : State) :
    (checkSynced s).role = s.role ∧ (checkSynced s).porst = s.porst ∧ (checkSynced s).srst = s.srst ∧
    (checkSynced s).markPin = s.markPin ∧ (checkSynced s).drainPin = s.drainPin ∧ (checkSynced s).sp = s.sp ∧
    (checkSynced s).control = s.control ∧ (checkSynced s).cfg = s.cfg ∧ (checkSynced s).enables = s.enables ∧
    (checkSynced s).counters = s.counters ∧ (checkSynced s).regions = s.regions ∧ (checkSynced s).sys = s.sys ∧
    (checkSynced s).mem = s.mem ∧ (checkSynced s).journal = s.journal ∧ (checkSynced s).dirty = s.dirty ∧
    (checkSynced s).copy = s.copy ∧ (checkSynced s).link = s.link ∧ (checkSynced s).tx = s.tx ∧
    (checkSynced s).rx = s.rx ∧ (checkSynced s).apply = s.apply ∧ (checkSynced s).reports = s.reports ∧
    (checkSynced s).choices = s.choices ∧ (checkSynced s).pending = s.pending := by
  unfold checkSynced
  (try dsimp only)
  (repeat' split) <;> simp

/-- What `completeSystem` leaves unchanged. -/
@[simp] theorem completeSystem_keeps (t : Transaction) (code : Completion) (data : Line) (s : State) :
    (completeSystem t code data s).role = s.role ∧ (completeSystem t code data s).porst = s.porst ∧ (completeSystem t code data s).srst = s.srst ∧
    (completeSystem t code data s).markPin = s.markPin ∧ (completeSystem t code data s).drainPin = s.drainPin ∧ (completeSystem t code data s).sp = s.sp ∧
    (completeSystem t code data s).control = s.control ∧ (completeSystem t code data s).cfg = s.cfg ∧ (completeSystem t code data s).causes = s.causes ∧
    (completeSystem t code data s).enables = s.enables ∧ (completeSystem t code data s).counters = s.counters ∧ (completeSystem t code data s).regions = s.regions ∧
    (completeSystem t code data s).mem = s.mem ∧ (completeSystem t code data s).journal = s.journal ∧ (completeSystem t code data s).dirty = s.dirty ∧
    (completeSystem t code data s).copy = s.copy ∧ (completeSystem t code data s).mirror = s.mirror ∧ (completeSystem t code data s).link = s.link ∧
    (completeSystem t code data s).tx = s.tx ∧ (completeSystem t code data s).rx = s.rx ∧ (completeSystem t code data s).apply = s.apply ∧
    (completeSystem t code data s).reports = s.reports ∧ (completeSystem t code data s).choices = s.choices ∧ (completeSystem t code data s).pending = s.pending :=
  ⟨rfl, rfl, rfl, rfl, rfl, rfl, rfl, rfl, rfl, rfl, rfl, rfl, rfl, rfl, rfl, rfl, rfl, rfl, rfl, rfl, rfl, rfl, rfl, rfl⟩

/-- What `releaseHeld` leaves unchanged. -/
@[simp] theorem releaseHeld_keeps (t : Transaction) (s : State) :
    (releaseHeld t s).role = s.role ∧ (releaseHeld t s).porst = s.porst ∧ (releaseHeld t s).srst = s.srst ∧
    (releaseHeld t s).markPin = s.markPin ∧ (releaseHeld t s).drainPin = s.drainPin ∧ (releaseHeld t s).sp = s.sp ∧
    (releaseHeld t s).control = s.control ∧ (releaseHeld t s).cfg = s.cfg ∧ (releaseHeld t s).causes = s.causes ∧
    (releaseHeld t s).enables = s.enables ∧ (releaseHeld t s).counters = s.counters ∧ (releaseHeld t s).regions = s.regions ∧
    (releaseHeld t s).mem = s.mem ∧ (releaseHeld t s).journal = s.journal ∧ (releaseHeld t s).dirty = s.dirty ∧
    (releaseHeld t s).copy = s.copy ∧ (releaseHeld t s).mirror = s.mirror ∧ (releaseHeld t s).link = s.link ∧
    (releaseHeld t s).tx = s.tx ∧ (releaseHeld t s).rx = s.rx ∧ (releaseHeld t s).apply = s.apply ∧
    (releaseHeld t s).reports = s.reports ∧ (releaseHeld t s).choices = s.choices ∧ (releaseHeld t s).pending = s.pending :=
  ⟨rfl, rfl, rfl, rfl, rfl, rfl, rfl, rfl, rfl, rfl, rfl, rfl, rfl, rfl, rfl, rfl, rfl, rfl, rfl, rfl, rfl, rfl, rfl, rfl⟩

/-- What `emptyBuffer` leaves unchanged. -/
@[simp] theorem emptyBuffer_keeps (s : State) :
    (emptyBuffer s).role = s.role ∧ (emptyBuffer s).porst = s.porst ∧ (emptyBuffer s).srst = s.srst ∧
    (emptyBuffer s).markPin = s.markPin ∧ (emptyBuffer s).drainPin = s.drainPin ∧ (emptyBuffer s).sp = s.sp ∧
    (emptyBuffer s).control = s.control ∧ (emptyBuffer s).cfg = s.cfg ∧ (emptyBuffer s).causes = s.causes ∧
    (emptyBuffer s).enables = s.enables ∧ (emptyBuffer s).counters = s.counters ∧ (emptyBuffer s).regions = s.regions ∧
    (emptyBuffer s).sys = s.sys ∧ (emptyBuffer s).mem = s.mem ∧ (emptyBuffer s).journal = s.journal ∧
    (emptyBuffer s).dirty = s.dirty ∧ (emptyBuffer s).copy = s.copy ∧ (emptyBuffer s).mirror = s.mirror ∧
    (emptyBuffer s).link = s.link ∧ (emptyBuffer s).rx = s.rx ∧ (emptyBuffer s).apply = s.apply ∧
    (emptyBuffer s).reports = s.reports ∧ (emptyBuffer s).choices = s.choices ∧ (emptyBuffer s).pending = s.pending :=
  ⟨rfl, rfl, rfl, rfl, rfl, rfl, rfl, rfl, rfl, rfl, rfl, rfl, rfl, rfl, rfl, rfl, rfl, rfl, rfl, rfl, rfl, rfl, rfl, rfl⟩

/-! ### CopyEngine -/

/-- What `presentRead` leaves unchanged. -/
@[simp] theorem presentRead_keeps (s : State) :
    (presentRead s).role = s.role ∧ (presentRead s).porst = s.porst ∧ (presentRead s).srst = s.srst ∧
    (presentRead s).markPin = s.markPin ∧ (presentRead s).drainPin = s.drainPin ∧ (presentRead s).sp = s.sp ∧
    (presentRead s).control = s.control ∧ (presentRead s).cfg = s.cfg ∧ (presentRead s).causes = s.causes ∧
    (presentRead s).enables = s.enables ∧ (presentRead s).counters = s.counters ∧ (presentRead s).regions = s.regions ∧
    (presentRead s).sys = s.sys ∧ (presentRead s).journal = s.journal ∧ (presentRead s).dirty = s.dirty ∧
    (presentRead s).mirror = s.mirror ∧ (presentRead s).link = s.link ∧ (presentRead s).tx = s.tx ∧
    (presentRead s).rx = s.rx ∧ (presentRead s).apply = s.apply ∧ (presentRead s).reports = s.reports ∧
    (presentRead s).choices = s.choices ∧ (presentRead s).pending = s.pending := by
  unfold presentRead
  (try dsimp only)
  (repeat' split) <;> simp

/-- What `abandonCopies` leaves unchanged. -/
@[simp] theorem abandonCopies_keeps (s : State) :
    (abandonCopies s).role = s.role ∧ (abandonCopies s).porst = s.porst ∧ (abandonCopies s).srst = s.srst ∧
    (abandonCopies s).markPin = s.markPin ∧ (abandonCopies s).drainPin = s.drainPin ∧ (abandonCopies s).sp = s.sp ∧
    (abandonCopies s).control = s.control ∧ (abandonCopies s).cfg = s.cfg ∧ (abandonCopies s).causes = s.causes ∧
    (abandonCopies s).enables = s.enables ∧ (abandonCopies s).counters = s.counters ∧ (abandonCopies s).regions = s.regions ∧
    (abandonCopies s).sys = s.sys ∧ (abandonCopies s).journal = s.journal ∧ (abandonCopies s).dirty = s.dirty ∧
    (abandonCopies s).mirror = s.mirror ∧ (abandonCopies s).link = s.link ∧ (abandonCopies s).tx = s.tx ∧
    (abandonCopies s).rx = s.rx ∧ (abandonCopies s).apply = s.apply ∧ (abandonCopies s).reports = s.reports ∧
    (abandonCopies s).choices = s.choices ∧ (abandonCopies s).pending = s.pending :=
  ⟨rfl, rfl, rfl, rfl, rfl, rfl, rfl, rfl, rfl, rfl, rfl, rfl, rfl, rfl, rfl, rfl, rfl, rfl, rfl, rfl, rfl, rfl, rfl⟩

/-- What `reserveCopy` leaves unchanged. -/
@[simp] theorem reserveCopy_keeps (b : Block) (i : Fin 4) (s : State) :
    (reserveCopy b i s).role = s.role ∧ (reserveCopy b i s).porst = s.porst ∧ (reserveCopy b i s).srst = s.srst ∧
    (reserveCopy b i s).markPin = s.markPin ∧ (reserveCopy b i s).drainPin = s.drainPin ∧ (reserveCopy b i s).sp = s.sp ∧
    (reserveCopy b i s).control = s.control ∧ (reserveCopy b i s).cfg = s.cfg ∧ (reserveCopy b i s).causes = s.causes ∧
    (reserveCopy b i s).enables = s.enables ∧ (reserveCopy b i s).counters = s.counters ∧ (reserveCopy b i s).regions = s.regions ∧
    (reserveCopy b i s).sys = s.sys ∧ (reserveCopy b i s).mem = s.mem ∧ (reserveCopy b i s).dirty = s.dirty ∧
    (reserveCopy b i s).mirror = s.mirror ∧ (reserveCopy b i s).link = s.link ∧ (reserveCopy b i s).tx = s.tx ∧
    (reserveCopy b i s).rx = s.rx ∧ (reserveCopy b i s).apply = s.apply ∧ (reserveCopy b i s).reports = s.reports ∧
    (reserveCopy b i s).choices = s.choices ∧ (reserveCopy b i s).pending = s.pending :=
  ⟨rfl, rfl, rfl, rfl, rfl, rfl, rfl, rfl, rfl, rfl, rfl, rfl, rfl, rfl, rfl, rfl, rfl, rfl, rfl, rfl, rfl, rfl, rfl⟩

/-- What `startTaken` leaves unchanged. -/
@[simp] theorem startTaken_keeps (b : Block) (s : State) :
    (startTaken b s).role = s.role ∧ (startTaken b s).porst = s.porst ∧ (startTaken b s).srst = s.srst ∧
    (startTaken b s).markPin = s.markPin ∧ (startTaken b s).drainPin = s.drainPin ∧ (startTaken b s).sp = s.sp ∧
    (startTaken b s).control = s.control ∧ (startTaken b s).cfg = s.cfg ∧ (startTaken b s).causes = s.causes ∧
    (startTaken b s).enables = s.enables ∧ (startTaken b s).counters = s.counters ∧ (startTaken b s).regions = s.regions ∧
    (startTaken b s).sys = s.sys ∧ (startTaken b s).mirror = s.mirror ∧ (startTaken b s).link = s.link ∧
    (startTaken b s).tx = s.tx ∧ (startTaken b s).rx = s.rx ∧ (startTaken b s).apply = s.apply ∧
    (startTaken b s).choices = s.choices ∧ (startTaken b s).pending = s.pending := by
  unfold startTaken
  (try dsimp only)
  (repeat' split) <;> simp

/-- What `reportCopyFault` leaves unchanged. -/
@[simp] theorem reportCopyFault_keeps (b : Block) (s : State) :
    (reportCopyFault b s).role = s.role ∧ (reportCopyFault b s).porst = s.porst ∧ (reportCopyFault b s).srst = s.srst ∧
    (reportCopyFault b s).markPin = s.markPin ∧ (reportCopyFault b s).drainPin = s.drainPin ∧ (reportCopyFault b s).sp = s.sp ∧
    (reportCopyFault b s).control = s.control ∧ (reportCopyFault b s).cfg = s.cfg ∧ (reportCopyFault b s).enables = s.enables ∧
    (reportCopyFault b s).regions = s.regions ∧ (reportCopyFault b s).sys = s.sys ∧ (reportCopyFault b s).mem = s.mem ∧
    (reportCopyFault b s).journal = s.journal ∧ (reportCopyFault b s).dirty = s.dirty ∧ (reportCopyFault b s).link = s.link ∧
    (reportCopyFault b s).tx = s.tx ∧ (reportCopyFault b s).rx = s.rx ∧ (reportCopyFault b s).apply = s.apply ∧
    (reportCopyFault b s).reports = s.reports ∧ (reportCopyFault b s).choices = s.choices ∧ (reportCopyFault b s).pending = s.pending :=
  ⟨rfl, rfl, rfl, rfl, rfl, rfl, rfl, rfl, rfl, rfl, rfl, rfl, rfl, rfl, rfl, rfl, rfl, rfl, rfl, rfl, rfl⟩

/-- What `endCopy` leaves unchanged. -/
@[simp] theorem endCopy_keeps (r : CopyRecord) (s : State) :
    (endCopy r s).role = s.role ∧ (endCopy r s).porst = s.porst ∧ (endCopy r s).srst = s.srst ∧
    (endCopy r s).markPin = s.markPin ∧ (endCopy r s).drainPin = s.drainPin ∧ (endCopy r s).sp = s.sp ∧
    (endCopy r s).control = s.control ∧ (endCopy r s).cfg = s.cfg ∧ (endCopy r s).enables = s.enables ∧
    (endCopy r s).regions = s.regions ∧ (endCopy r s).sys = s.sys ∧ (endCopy r s).mem = s.mem ∧
    (endCopy r s).dirty = s.dirty ∧ (endCopy r s).link = s.link ∧ (endCopy r s).tx = s.tx ∧
    (endCopy r s).rx = s.rx ∧ (endCopy r s).apply = s.apply ∧ (endCopy r s).reports = s.reports ∧
    (endCopy r s).choices = s.choices ∧ (endCopy r s).pending = s.pending := by
  unfold endCopy
  (try dsimp only)
  (repeat' split) <;> simp

/-- What `takeLine` leaves unchanged. -/
@[simp] theorem takeLine_keeps (r : CopyRecord) (answer : MemAnswer) (data : Line) (s : State) :
    (takeLine r answer data s).role = s.role ∧ (takeLine r answer data s).porst = s.porst ∧ (takeLine r answer data s).srst = s.srst ∧
    (takeLine r answer data s).markPin = s.markPin ∧ (takeLine r answer data s).drainPin = s.drainPin ∧ (takeLine r answer data s).sp = s.sp ∧
    (takeLine r answer data s).control = s.control ∧ (takeLine r answer data s).cfg = s.cfg ∧ (takeLine r answer data s).enables = s.enables ∧
    (takeLine r answer data s).regions = s.regions ∧ (takeLine r answer data s).sys = s.sys ∧ (takeLine r answer data s).mem = s.mem ∧
    (takeLine r answer data s).dirty = s.dirty ∧ (takeLine r answer data s).link = s.link ∧ (takeLine r answer data s).tx = s.tx ∧
    (takeLine r answer data s).rx = s.rx ∧ (takeLine r answer data s).apply = s.apply ∧ (takeLine r answer data s).reports = s.reports ∧
    (takeLine r answer data s).choices = s.choices ∧ (takeLine r answer data s).pending = s.pending := by
  unfold takeLine
  (try dsimp only)
  (repeat' split) <;> simp

/-- What `copyAnswer` leaves unchanged. -/
@[simp] theorem copyAnswer_keeps (id : ReadId) (answer : MemAnswer) (data : Line) (s : State) :
    (copyAnswer id answer data s).role = s.role ∧ (copyAnswer id answer data s).porst = s.porst ∧ (copyAnswer id answer data s).srst = s.srst ∧
    (copyAnswer id answer data s).markPin = s.markPin ∧ (copyAnswer id answer data s).drainPin = s.drainPin ∧ (copyAnswer id answer data s).sp = s.sp ∧
    (copyAnswer id answer data s).control = s.control ∧ (copyAnswer id answer data s).cfg = s.cfg ∧ (copyAnswer id answer data s).enables = s.enables ∧
    (copyAnswer id answer data s).regions = s.regions ∧ (copyAnswer id answer data s).sys = s.sys ∧ (copyAnswer id answer data s).dirty = s.dirty ∧
    (copyAnswer id answer data s).link = s.link ∧ (copyAnswer id answer data s).tx = s.tx ∧ (copyAnswer id answer data s).rx = s.rx ∧
    (copyAnswer id answer data s).apply = s.apply ∧ (copyAnswer id answer data s).reports = s.reports ∧ (copyAnswer id answer data s).choices = s.choices ∧
    (copyAnswer id answer data s).pending = s.pending := by
  unfold copyAnswer
  (try dsimp only)
  (repeat' split) <;> simp

/-! ### Transmitter -/

/-- What `offerControl` leaves unchanged. -/
@[simp] theorem offerControl_keeps (seq : Seq) (body : FrameBody) (s : State) :
    (offerControl seq body s).role = s.role ∧ (offerControl seq body s).porst = s.porst ∧ (offerControl seq body s).srst = s.srst ∧
    (offerControl seq body s).markPin = s.markPin ∧ (offerControl seq body s).drainPin = s.drainPin ∧ (offerControl seq body s).sp = s.sp ∧
    (offerControl seq body s).control = s.control ∧ (offerControl seq body s).cfg = s.cfg ∧ (offerControl seq body s).causes = s.causes ∧
    (offerControl seq body s).enables = s.enables ∧ (offerControl seq body s).counters = s.counters ∧ (offerControl seq body s).regions = s.regions ∧
    (offerControl seq body s).sys = s.sys ∧ (offerControl seq body s).mem = s.mem ∧ (offerControl seq body s).journal = s.journal ∧
    (offerControl seq body s).dirty = s.dirty ∧ (offerControl seq body s).copy = s.copy ∧ (offerControl seq body s).mirror = s.mirror ∧
    (offerControl seq body s).link = s.link ∧ (offerControl seq body s).rx = s.rx ∧ (offerControl seq body s).apply = s.apply ∧
    (offerControl seq body s).reports = s.reports ∧ (offerControl seq body s).choices = s.choices ∧ (offerControl seq body s).pending = s.pending := by
  unfold offerControl
  (try dsimp only)
  (repeat' split) <;> simp

/-- What `emptyTransmitter` leaves unchanged. -/
@[simp] theorem emptyTransmitter_keeps (s : State) :
    (emptyTransmitter s).role = s.role ∧ (emptyTransmitter s).porst = s.porst ∧ (emptyTransmitter s).srst = s.srst ∧
    (emptyTransmitter s).markPin = s.markPin ∧ (emptyTransmitter s).drainPin = s.drainPin ∧ (emptyTransmitter s).sp = s.sp ∧
    (emptyTransmitter s).control = s.control ∧ (emptyTransmitter s).cfg = s.cfg ∧ (emptyTransmitter s).causes = s.causes ∧
    (emptyTransmitter s).enables = s.enables ∧ (emptyTransmitter s).counters = s.counters ∧ (emptyTransmitter s).regions = s.regions ∧
    (emptyTransmitter s).sys = s.sys ∧ (emptyTransmitter s).mem = s.mem ∧ (emptyTransmitter s).journal = s.journal ∧
    (emptyTransmitter s).dirty = s.dirty ∧ (emptyTransmitter s).copy = s.copy ∧ (emptyTransmitter s).mirror = s.mirror ∧
    (emptyTransmitter s).link = s.link ∧ (emptyTransmitter s).rx = s.rx ∧ (emptyTransmitter s).apply = s.apply ∧
    (emptyTransmitter s).reports = s.reports ∧ (emptyTransmitter s).choices = s.choices ∧ (emptyTransmitter s).pending = s.pending :=
  ⟨rfl, rfl, rfl, rfl, rfl, rfl, rfl, rfl, rfl, rfl, rfl, rfl, rfl, rfl, rfl, rfl, rfl, rfl, rfl, rfl, rfl, rfl, rfl, rfl⟩

/-- What `requestBreak` leaves unchanged. -/
@[simp] theorem requestBreak_keeps (s : State) :
    (requestBreak s).role = s.role ∧ (requestBreak s).porst = s.porst ∧ (requestBreak s).srst = s.srst ∧
    (requestBreak s).markPin = s.markPin ∧ (requestBreak s).drainPin = s.drainPin ∧ (requestBreak s).sp = s.sp ∧
    (requestBreak s).control = s.control ∧ (requestBreak s).cfg = s.cfg ∧ (requestBreak s).causes = s.causes ∧
    (requestBreak s).enables = s.enables ∧ (requestBreak s).counters = s.counters ∧ (requestBreak s).regions = s.regions ∧
    (requestBreak s).sys = s.sys ∧ (requestBreak s).mem = s.mem ∧ (requestBreak s).journal = s.journal ∧
    (requestBreak s).dirty = s.dirty ∧ (requestBreak s).copy = s.copy ∧ (requestBreak s).mirror = s.mirror ∧
    (requestBreak s).link = s.link ∧ (requestBreak s).rx = s.rx ∧ (requestBreak s).apply = s.apply ∧
    (requestBreak s).reports = s.reports ∧ (requestBreak s).choices = s.choices ∧ (requestBreak s).pending = s.pending := by
  unfold requestBreak
  (try dsimp only)
  (repeat' split) <;> simp

/-- What `transmitterIntoOff` leaves unchanged. -/
@[simp] theorem transmitterIntoOff_keeps (s : State) :
    (transmitterIntoOff s).role = s.role ∧ (transmitterIntoOff s).porst = s.porst ∧ (transmitterIntoOff s).srst = s.srst ∧
    (transmitterIntoOff s).markPin = s.markPin ∧ (transmitterIntoOff s).drainPin = s.drainPin ∧ (transmitterIntoOff s).sp = s.sp ∧
    (transmitterIntoOff s).control = s.control ∧ (transmitterIntoOff s).cfg = s.cfg ∧ (transmitterIntoOff s).causes = s.causes ∧
    (transmitterIntoOff s).enables = s.enables ∧ (transmitterIntoOff s).counters = s.counters ∧ (transmitterIntoOff s).regions = s.regions ∧
    (transmitterIntoOff s).sys = s.sys ∧ (transmitterIntoOff s).mem = s.mem ∧ (transmitterIntoOff s).journal = s.journal ∧
    (transmitterIntoOff s).dirty = s.dirty ∧ (transmitterIntoOff s).copy = s.copy ∧ (transmitterIntoOff s).mirror = s.mirror ∧
    (transmitterIntoOff s).link = s.link ∧ (transmitterIntoOff s).rx = s.rx ∧ (transmitterIntoOff s).apply = s.apply ∧
    (transmitterIntoOff s).reports = s.reports ∧ (transmitterIntoOff s).choices = s.choices ∧ (transmitterIntoOff s).pending = s.pending :=
  ⟨rfl, rfl, rfl, rfl, rfl, rfl, rfl, rfl, rfl, rfl, rfl, rfl, rfl, rfl, rfl, rfl, rfl, rfl, rfl, rfl, rfl, rfl, rfl, rfl⟩

/-- What `takeLoad` leaves unchanged. -/
@[simp] theorem takeLoad_keeps (e : Entry) (f : Frame) (s : State) :
    (takeLoad e f s).role = s.role ∧ (takeLoad e f s).porst = s.porst ∧ (takeLoad e f s).srst = s.srst ∧
    (takeLoad e f s).markPin = s.markPin ∧ (takeLoad e f s).drainPin = s.drainPin ∧ (takeLoad e f s).sp = s.sp ∧
    (takeLoad e f s).control = s.control ∧ (takeLoad e f s).cfg = s.cfg ∧ (takeLoad e f s).causes = s.causes ∧
    (takeLoad e f s).enables = s.enables ∧ (takeLoad e f s).regions = s.regions ∧ (takeLoad e f s).sys = s.sys ∧
    (takeLoad e f s).mem = s.mem ∧ (takeLoad e f s).dirty = s.dirty ∧ (takeLoad e f s).copy = s.copy ∧
    (takeLoad e f s).mirror = s.mirror ∧ (takeLoad e f s).link = s.link ∧ (takeLoad e f s).rx = s.rx ∧
    (takeLoad e f s).apply = s.apply ∧ (takeLoad e f s).reports = s.reports ∧ (takeLoad e f s).choices = s.choices ∧
    (takeLoad e f s).pending = s.pending := by
  unfold takeLoad
  (try dsimp only)
  (repeat' split) <;> simp

/-- What `stopKeepaliveInUp` leaves unchanged. -/
@[simp] theorem stopKeepaliveInUp_keeps (s : State) :
    (stopKeepaliveInUp s).role = s.role ∧ (stopKeepaliveInUp s).porst = s.porst ∧ (stopKeepaliveInUp s).srst = s.srst ∧
    (stopKeepaliveInUp s).markPin = s.markPin ∧ (stopKeepaliveInUp s).drainPin = s.drainPin ∧ (stopKeepaliveInUp s).sp = s.sp ∧
    (stopKeepaliveInUp s).control = s.control ∧ (stopKeepaliveInUp s).cfg = s.cfg ∧ (stopKeepaliveInUp s).causes = s.causes ∧
    (stopKeepaliveInUp s).enables = s.enables ∧ (stopKeepaliveInUp s).counters = s.counters ∧ (stopKeepaliveInUp s).regions = s.regions ∧
    (stopKeepaliveInUp s).sys = s.sys ∧ (stopKeepaliveInUp s).mem = s.mem ∧ (stopKeepaliveInUp s).journal = s.journal ∧
    (stopKeepaliveInUp s).dirty = s.dirty ∧ (stopKeepaliveInUp s).copy = s.copy ∧ (stopKeepaliveInUp s).mirror = s.mirror ∧
    (stopKeepaliveInUp s).tx = s.tx ∧ (stopKeepaliveInUp s).rx = s.rx ∧ (stopKeepaliveInUp s).apply = s.apply ∧
    (stopKeepaliveInUp s).reports = s.reports ∧ (stopKeepaliveInUp s).choices = s.choices ∧ (stopKeepaliveInUp s).pending = s.pending := by
  unfold stopKeepaliveInUp
  (try dsimp only)
  (repeat' split) <;> simp

/-- What `boundaryTake` leaves unchanged. -/
@[simp] theorem boundaryTake_keeps (s : State) :
    (boundaryTake s).role = s.role ∧ (boundaryTake s).porst = s.porst ∧ (boundaryTake s).srst = s.srst ∧
    (boundaryTake s).markPin = s.markPin ∧ (boundaryTake s).drainPin = s.drainPin ∧ (boundaryTake s).sp = s.sp ∧
    (boundaryTake s).control = s.control ∧ (boundaryTake s).cfg = s.cfg ∧ (boundaryTake s).causes = s.causes ∧
    (boundaryTake s).enables = s.enables ∧ (boundaryTake s).counters = s.counters ∧ (boundaryTake s).regions = s.regions ∧
    (boundaryTake s).sys = s.sys ∧ (boundaryTake s).mem = s.mem ∧ (boundaryTake s).journal = s.journal ∧
    (boundaryTake s).dirty = s.dirty ∧ (boundaryTake s).copy = s.copy ∧ (boundaryTake s).mirror = s.mirror ∧
    (boundaryTake s).rx = s.rx ∧ (boundaryTake s).apply = s.apply ∧ (boundaryTake s).reports = s.reports ∧
    (boundaryTake s).choices = s.choices ∧ (boundaryTake s).pending = s.pending := by
  unfold boundaryTake
  (try dsimp only)
  (repeat' split) <;> simp

/-- What `endOfFrameReport` leaves unchanged. -/
@[simp] theorem endOfFrameReport_keeps (f : Frame) (s : State) :
    (endOfFrameReport f s).role = s.role ∧ (endOfFrameReport f s).porst = s.porst ∧ (endOfFrameReport f s).srst = s.srst ∧
    (endOfFrameReport f s).markPin = s.markPin ∧ (endOfFrameReport f s).drainPin = s.drainPin ∧ (endOfFrameReport f s).sp = s.sp ∧
    (endOfFrameReport f s).control = s.control ∧ (endOfFrameReport f s).cfg = s.cfg ∧ (endOfFrameReport f s).causes = s.causes ∧
    (endOfFrameReport f s).enables = s.enables ∧ (endOfFrameReport f s).counters = s.counters ∧ (endOfFrameReport f s).regions = s.regions ∧
    (endOfFrameReport f s).sys = s.sys ∧ (endOfFrameReport f s).mem = s.mem ∧ (endOfFrameReport f s).journal = s.journal ∧
    (endOfFrameReport f s).dirty = s.dirty ∧ (endOfFrameReport f s).copy = s.copy ∧ (endOfFrameReport f s).mirror = s.mirror ∧
    (endOfFrameReport f s).tx = s.tx ∧ (endOfFrameReport f s).rx = s.rx ∧ (endOfFrameReport f s).apply = s.apply ∧
    (endOfFrameReport f s).reports = s.reports ∧ (endOfFrameReport f s).choices = s.choices ∧ (endOfFrameReport f s).pending = s.pending := by
  unfold endOfFrameReport
  (try dsimp only)
  (repeat' split) <;> simp

/-! ### MirrorController -/

/-- What `failDrain` leaves unchanged. -/
@[simp] theorem failDrain_keeps (s : State) :
    (failDrain s).role = s.role ∧ (failDrain s).porst = s.porst ∧ (failDrain s).srst = s.srst ∧
    (failDrain s).markPin = s.markPin ∧ (failDrain s).drainPin = s.drainPin ∧ (failDrain s).sp = s.sp ∧
    (failDrain s).control = s.control ∧ (failDrain s).cfg = s.cfg ∧ (failDrain s).enables = s.enables ∧
    (failDrain s).counters = s.counters ∧ (failDrain s).regions = s.regions ∧ (failDrain s).sys = s.sys ∧
    (failDrain s).mem = s.mem ∧ (failDrain s).journal = s.journal ∧ (failDrain s).dirty = s.dirty ∧
    (failDrain s).copy = s.copy ∧ (failDrain s).link = s.link ∧ (failDrain s).tx = s.tx ∧
    (failDrain s).rx = s.rx ∧ (failDrain s).apply = s.apply ∧ (failDrain s).reports = s.reports ∧
    (failDrain s).choices = s.choices ∧ (failDrain s).pending = s.pending := by
  unfold failDrain
  (try dsimp only)
  (repeat' split) <;> simp

/-- What `reportSpilledDrains` leaves unchanged. -/
@[simp] theorem reportSpilledDrains_keeps (es : List Entry) (s : State) :
    (reportSpilledDrains es s).role = s.role ∧ (reportSpilledDrains es s).porst = s.porst ∧ (reportSpilledDrains es s).srst = s.srst ∧
    (reportSpilledDrains es s).markPin = s.markPin ∧ (reportSpilledDrains es s).drainPin = s.drainPin ∧ (reportSpilledDrains es s).sp = s.sp ∧
    (reportSpilledDrains es s).control = s.control ∧ (reportSpilledDrains es s).cfg = s.cfg ∧ (reportSpilledDrains es s).enables = s.enables ∧
    (reportSpilledDrains es s).counters = s.counters ∧ (reportSpilledDrains es s).regions = s.regions ∧ (reportSpilledDrains es s).sys = s.sys ∧
    (reportSpilledDrains es s).mem = s.mem ∧ (reportSpilledDrains es s).journal = s.journal ∧ (reportSpilledDrains es s).dirty = s.dirty ∧
    (reportSpilledDrains es s).copy = s.copy ∧ (reportSpilledDrains es s).link = s.link ∧ (reportSpilledDrains es s).tx = s.tx ∧
    (reportSpilledDrains es s).rx = s.rx ∧ (reportSpilledDrains es s).apply = s.apply ∧ (reportSpilledDrains es s).reports = s.reports ∧
    (reportSpilledDrains es s).choices = s.choices ∧ (reportSpilledDrains es s).pending = s.pending := by
  unfold reportSpilledDrains
  (try dsimp only)
  (repeat' split) <;> simp

/-- What `spillJournal` leaves unchanged. -/
@[simp] theorem spillJournal_keeps (s : State) :
    (spillJournal s).role = s.role ∧ (spillJournal s).porst = s.porst ∧ (spillJournal s).srst = s.srst ∧
    (spillJournal s).markPin = s.markPin ∧ (spillJournal s).drainPin = s.drainPin ∧ (spillJournal s).sp = s.sp ∧
    (spillJournal s).control = s.control ∧ (spillJournal s).cfg = s.cfg ∧ (spillJournal s).enables = s.enables ∧
    (spillJournal s).counters = s.counters ∧ (spillJournal s).regions = s.regions ∧ (spillJournal s).sys = s.sys ∧
    (spillJournal s).mem = s.mem ∧ (spillJournal s).link = s.link ∧ (spillJournal s).rx = s.rx ∧
    (spillJournal s).apply = s.apply ∧ (spillJournal s).reports = s.reports ∧ (spillJournal s).choices = s.choices ∧
    (spillJournal s).pending = s.pending := by
  unfold spillJournal
  (try dsimp only)
  (repeat' split) <;> simp

/-- What `discardJournal` leaves unchanged. -/
@[simp] theorem discardJournal_keeps (s : State) :
    (discardJournal s).role = s.role ∧ (discardJournal s).porst = s.porst ∧ (discardJournal s).srst = s.srst ∧
    (discardJournal s).markPin = s.markPin ∧ (discardJournal s).drainPin = s.drainPin ∧ (discardJournal s).sp = s.sp ∧
    (discardJournal s).control = s.control ∧ (discardJournal s).cfg = s.cfg ∧ (discardJournal s).causes = s.causes ∧
    (discardJournal s).enables = s.enables ∧ (discardJournal s).counters = s.counters ∧ (discardJournal s).regions = s.regions ∧
    (discardJournal s).sys = s.sys ∧ (discardJournal s).mem = s.mem ∧ (discardJournal s).dirty = s.dirty ∧
    (discardJournal s).mirror = s.mirror ∧ (discardJournal s).link = s.link ∧ (discardJournal s).rx = s.rx ∧
    (discardJournal s).apply = s.apply ∧ (discardJournal s).reports = s.reports ∧ (discardJournal s).choices = s.choices ∧
    (discardJournal s).pending = s.pending :=
  ⟨rfl, rfl, rfl, rfl, rfl, rfl, rfl, rfl, rfl, rfl, rfl, rfl, rfl, rfl, rfl, rfl, rfl, rfl, rfl, rfl, rfl, rfl⟩

/-- What `releaseIntoMap` leaves unchanged. -/
@[simp] theorem releaseIntoMap_keeps (s : State) :
    (releaseIntoMap s).role = s.role ∧ (releaseIntoMap s).porst = s.porst ∧ (releaseIntoMap s).srst = s.srst ∧
    (releaseIntoMap s).markPin = s.markPin ∧ (releaseIntoMap s).drainPin = s.drainPin ∧ (releaseIntoMap s).sp = s.sp ∧
    (releaseIntoMap s).control = s.control ∧ (releaseIntoMap s).cfg = s.cfg ∧ (releaseIntoMap s).causes = s.causes ∧
    (releaseIntoMap s).enables = s.enables ∧ (releaseIntoMap s).counters = s.counters ∧ (releaseIntoMap s).regions = s.regions ∧
    (releaseIntoMap s).mem = s.mem ∧ (releaseIntoMap s).journal = s.journal ∧ (releaseIntoMap s).copy = s.copy ∧
    (releaseIntoMap s).mirror = s.mirror ∧ (releaseIntoMap s).link = s.link ∧ (releaseIntoMap s).tx = s.tx ∧
    (releaseIntoMap s).rx = s.rx ∧ (releaseIntoMap s).apply = s.apply ∧ (releaseIntoMap s).reports = s.reports ∧
    (releaseIntoMap s).choices = s.choices ∧ (releaseIntoMap s).pending = s.pending := by
  unfold releaseIntoMap
  (try dsimp only)
  (repeat' split) <;> simp

/-- What `releaseUncaptured` leaves unchanged. -/
@[simp] theorem releaseUncaptured_keeps (s : State) :
    (releaseUncaptured s).role = s.role ∧ (releaseUncaptured s).porst = s.porst ∧ (releaseUncaptured s).srst = s.srst ∧
    (releaseUncaptured s).markPin = s.markPin ∧ (releaseUncaptured s).drainPin = s.drainPin ∧ (releaseUncaptured s).sp = s.sp ∧
    (releaseUncaptured s).control = s.control ∧ (releaseUncaptured s).cfg = s.cfg ∧ (releaseUncaptured s).causes = s.causes ∧
    (releaseUncaptured s).enables = s.enables ∧ (releaseUncaptured s).counters = s.counters ∧ (releaseUncaptured s).regions = s.regions ∧
    (releaseUncaptured s).mem = s.mem ∧ (releaseUncaptured s).journal = s.journal ∧ (releaseUncaptured s).dirty = s.dirty ∧
    (releaseUncaptured s).copy = s.copy ∧ (releaseUncaptured s).mirror = s.mirror ∧ (releaseUncaptured s).link = s.link ∧
    (releaseUncaptured s).tx = s.tx ∧ (releaseUncaptured s).rx = s.rx ∧ (releaseUncaptured s).apply = s.apply ∧
    (releaseUncaptured s).reports = s.reports ∧ (releaseUncaptured s).choices = s.choices ∧ (releaseUncaptured s).pending = s.pending := by
  unfold releaseUncaptured
  (try dsimp only)
  (repeat' split) <;> simp

/-- What `cancelMarkRequest` leaves unchanged. -/
@[simp] theorem cancelMarkRequest_keeps (s : State) :
    (cancelMarkRequest s).role = s.role ∧ (cancelMarkRequest s).porst = s.porst ∧ (cancelMarkRequest s).srst = s.srst ∧
    (cancelMarkRequest s).markPin = s.markPin ∧ (cancelMarkRequest s).drainPin = s.drainPin ∧ (cancelMarkRequest s).sp = s.sp ∧
    (cancelMarkRequest s).control = s.control ∧ (cancelMarkRequest s).cfg = s.cfg ∧ (cancelMarkRequest s).causes = s.causes ∧
    (cancelMarkRequest s).enables = s.enables ∧ (cancelMarkRequest s).counters = s.counters ∧ (cancelMarkRequest s).regions = s.regions ∧
    (cancelMarkRequest s).sys = s.sys ∧ (cancelMarkRequest s).mem = s.mem ∧ (cancelMarkRequest s).journal = s.journal ∧
    (cancelMarkRequest s).dirty = s.dirty ∧ (cancelMarkRequest s).copy = s.copy ∧ (cancelMarkRequest s).link = s.link ∧
    (cancelMarkRequest s).tx = s.tx ∧ (cancelMarkRequest s).rx = s.rx ∧ (cancelMarkRequest s).apply = s.apply ∧
    (cancelMarkRequest s).reports = s.reports ∧ (cancelMarkRequest s).choices = s.choices ∧ (cancelMarkRequest s).pending = s.pending :=
  ⟨rfl, rfl, rfl, rfl, rfl, rfl, rfl, rfl, rfl, rfl, rfl, rfl, rfl, rfl, rfl, rfl, rfl, rfl, rfl, rfl, rfl, rfl, rfl, rfl⟩

/-- What `linkLossTransition` leaves unchanged. -/
@[simp] theorem linkLossTransition_keeps (s : State) :
    (linkLossTransition s).role = s.role ∧ (linkLossTransition s).porst = s.porst ∧ (linkLossTransition s).srst = s.srst ∧
    (linkLossTransition s).markPin = s.markPin ∧ (linkLossTransition s).drainPin = s.drainPin ∧ (linkLossTransition s).sp = s.sp ∧
    (linkLossTransition s).control = s.control ∧ (linkLossTransition s).cfg = s.cfg ∧ (linkLossTransition s).enables = s.enables ∧
    (linkLossTransition s).counters = s.counters ∧ (linkLossTransition s).regions = s.regions ∧ (linkLossTransition s).link = s.link ∧
    (linkLossTransition s).rx = s.rx ∧ (linkLossTransition s).apply = s.apply ∧ (linkLossTransition s).reports = s.reports ∧
    (linkLossTransition s).choices = s.choices ∧ (linkLossTransition s).pending = s.pending := by
  unfold linkLossTransition
  (try dsimp only)
  (repeat' split) <;> simp

/-- What `originLeftUp` leaves unchanged. -/
@[simp] theorem originLeftUp_keeps (s : State) :
    (originLeftUp s).role = s.role ∧ (originLeftUp s).porst = s.porst ∧ (originLeftUp s).srst = s.srst ∧
    (originLeftUp s).markPin = s.markPin ∧ (originLeftUp s).drainPin = s.drainPin ∧ (originLeftUp s).sp = s.sp ∧
    (originLeftUp s).control = s.control ∧ (originLeftUp s).cfg = s.cfg ∧ (originLeftUp s).enables = s.enables ∧
    (originLeftUp s).counters = s.counters ∧ (originLeftUp s).regions = s.regions ∧ (originLeftUp s).link = s.link ∧
    (originLeftUp s).rx = s.rx ∧ (originLeftUp s).apply = s.apply ∧ (originLeftUp s).reports = s.reports ∧
    (originLeftUp s).choices = s.choices ∧ (originLeftUp s).pending = s.pending := by
  unfold originLeftUp
  (try dsimp only)
  (repeat' split) <;> simp

/-- What `originReachedUp` leaves unchanged. -/
@[simp] theorem originReachedUp_keeps (s : State) :
    (originReachedUp s).role = s.role ∧ (originReachedUp s).porst = s.porst ∧ (originReachedUp s).srst = s.srst ∧
    (originReachedUp s).markPin = s.markPin ∧ (originReachedUp s).drainPin = s.drainPin ∧ (originReachedUp s).sp = s.sp ∧
    (originReachedUp s).control = s.control ∧ (originReachedUp s).cfg = s.cfg ∧ (originReachedUp s).enables = s.enables ∧
    (originReachedUp s).counters = s.counters ∧ (originReachedUp s).regions = s.regions ∧ (originReachedUp s).sys = s.sys ∧
    (originReachedUp s).mem = s.mem ∧ (originReachedUp s).journal = s.journal ∧ (originReachedUp s).link = s.link ∧
    (originReachedUp s).tx = s.tx ∧ (originReachedUp s).rx = s.rx ∧ (originReachedUp s).apply = s.apply ∧
    (originReachedUp s).reports = s.reports ∧ (originReachedUp s).choices = s.choices ∧ (originReachedUp s).pending = s.pending := by
  unfold originReachedUp
  (try dsimp only)
  (repeat' split) <;> simp

/-- What `takeMarkReport` leaves unchanged. -/
@[simp] theorem takeMarkReport_keeps (r : MarkReport) (s : State) :
    (takeMarkReport r s).role = s.role ∧ (takeMarkReport r s).porst = s.porst ∧ (takeMarkReport r s).srst = s.srst ∧
    (takeMarkReport r s).markPin = s.markPin ∧ (takeMarkReport r s).drainPin = s.drainPin ∧ (takeMarkReport r s).sp = s.sp ∧
    (takeMarkReport r s).control = s.control ∧ (takeMarkReport r s).cfg = s.cfg ∧ (takeMarkReport r s).enables = s.enables ∧
    (takeMarkReport r s).counters = s.counters ∧ (takeMarkReport r s).regions = s.regions ∧ (takeMarkReport r s).sys = s.sys ∧
    (takeMarkReport r s).mem = s.mem ∧ (takeMarkReport r s).journal = s.journal ∧ (takeMarkReport r s).dirty = s.dirty ∧
    (takeMarkReport r s).copy = s.copy ∧ (takeMarkReport r s).link = s.link ∧ (takeMarkReport r s).tx = s.tx ∧
    (takeMarkReport r s).rx = s.rx ∧ (takeMarkReport r s).apply = s.apply ∧ (takeMarkReport r s).reports = s.reports ∧
    (takeMarkReport r s).choices = s.choices ∧ (takeMarkReport r s).pending = s.pending := by
  unfold takeMarkReport
  (try dsimp only)
  (repeat' split) <;> simp

/-- What `appendPendingMark` leaves unchanged. -/
@[simp] theorem appendPendingMark_keeps (s : State) :
    (appendPendingMark s).role = s.role ∧ (appendPendingMark s).porst = s.porst ∧ (appendPendingMark s).srst = s.srst ∧
    (appendPendingMark s).markPin = s.markPin ∧ (appendPendingMark s).drainPin = s.drainPin ∧ (appendPendingMark s).sp = s.sp ∧
    (appendPendingMark s).control = s.control ∧ (appendPendingMark s).cfg = s.cfg ∧ (appendPendingMark s).causes = s.causes ∧
    (appendPendingMark s).enables = s.enables ∧ (appendPendingMark s).counters = s.counters ∧ (appendPendingMark s).regions = s.regions ∧
    (appendPendingMark s).sys = s.sys ∧ (appendPendingMark s).mem = s.mem ∧ (appendPendingMark s).dirty = s.dirty ∧
    (appendPendingMark s).copy = s.copy ∧ (appendPendingMark s).link = s.link ∧ (appendPendingMark s).tx = s.tx ∧
    (appendPendingMark s).rx = s.rx ∧ (appendPendingMark s).apply = s.apply ∧ (appendPendingMark s).reports = s.reports ∧
    (appendPendingMark s).choices = s.choices ∧ (appendPendingMark s).pending = s.pending := by
  unfold appendPendingMark
  (try dsimp only)
  (repeat' split) <;> simp

/-- What `acceptMark` leaves unchanged. -/
@[simp] theorem acceptMark_keeps (drain : Bool) (s : State) :
    (acceptMark drain s).role = s.role ∧ (acceptMark drain s).porst = s.porst ∧ (acceptMark drain s).srst = s.srst ∧
    (acceptMark drain s).markPin = s.markPin ∧ (acceptMark drain s).drainPin = s.drainPin ∧ (acceptMark drain s).sp = s.sp ∧
    (acceptMark drain s).control = s.control ∧ (acceptMark drain s).cfg = s.cfg ∧ (acceptMark drain s).causes = s.causes ∧
    (acceptMark drain s).enables = s.enables ∧ (acceptMark drain s).counters = s.counters ∧ (acceptMark drain s).regions = s.regions ∧
    (acceptMark drain s).sys = s.sys ∧ (acceptMark drain s).mem = s.mem ∧ (acceptMark drain s).dirty = s.dirty ∧
    (acceptMark drain s).copy = s.copy ∧ (acceptMark drain s).link = s.link ∧ (acceptMark drain s).tx = s.tx ∧
    (acceptMark drain s).rx = s.rx ∧ (acceptMark drain s).apply = s.apply ∧ (acceptMark drain s).reports = s.reports ∧
    (acceptMark drain s).choices = s.choices ∧ (acceptMark drain s).pending = s.pending := by
  unfold acceptMark
  (try dsimp only)
  (repeat' split) <;> simp

/-- What `lowerDrained` leaves unchanged. -/
@[simp] theorem lowerDrained_keeps (s : State) :
    (lowerDrained s).role = s.role ∧ (lowerDrained s).porst = s.porst ∧ (lowerDrained s).srst = s.srst ∧
    (lowerDrained s).markPin = s.markPin ∧ (lowerDrained s).drainPin = s.drainPin ∧ (lowerDrained s).sp = s.sp ∧
    (lowerDrained s).control = s.control ∧ (lowerDrained s).cfg = s.cfg ∧ (lowerDrained s).causes = s.causes ∧
    (lowerDrained s).enables = s.enables ∧ (lowerDrained s).counters = s.counters ∧ (lowerDrained s).regions = s.regions ∧
    (lowerDrained s).sys = s.sys ∧ (lowerDrained s).mem = s.mem ∧ (lowerDrained s).journal = s.journal ∧
    (lowerDrained s).dirty = s.dirty ∧ (lowerDrained s).copy = s.copy ∧ (lowerDrained s).link = s.link ∧
    (lowerDrained s).tx = s.tx ∧ (lowerDrained s).rx = s.rx ∧ (lowerDrained s).apply = s.apply ∧
    (lowerDrained s).reports = s.reports ∧ (lowerDrained s).choices = s.choices ∧ (lowerDrained s).pending = s.pending := by
  unfold lowerDrained
  (try dsimp only)
  (repeat' split) <;> simp

/-- What `acceptDrain` leaves unchanged. -/
@[simp] theorem acceptDrain_keeps (s : State) :
    (acceptDrain s).role = s.role ∧ (acceptDrain s).porst = s.porst ∧ (acceptDrain s).srst = s.srst ∧
    (acceptDrain s).markPin = s.markPin ∧ (acceptDrain s).drainPin = s.drainPin ∧ (acceptDrain s).sp = s.sp ∧
    (acceptDrain s).control = s.control ∧ (acceptDrain s).cfg = s.cfg ∧ (acceptDrain s).causes = s.causes ∧
    (acceptDrain s).enables = s.enables ∧ (acceptDrain s).counters = s.counters ∧ (acceptDrain s).regions = s.regions ∧
    (acceptDrain s).sys = s.sys ∧ (acceptDrain s).mem = s.mem ∧ (acceptDrain s).dirty = s.dirty ∧
    (acceptDrain s).copy = s.copy ∧ (acceptDrain s).link = s.link ∧ (acceptDrain s).tx = s.tx ∧
    (acceptDrain s).rx = s.rx ∧ (acceptDrain s).apply = s.apply ∧ (acceptDrain s).reports = s.reports ∧
    (acceptDrain s).choices = s.choices ∧ (acceptDrain s).pending = s.pending := by
  unfold acceptDrain
  (try dsimp only)
  (repeat' split) <;> simp

/-- What `completeDrain` leaves unchanged. -/
@[simp] theorem completeDrain_keeps (d : DrainMark) (s : State) :
    (completeDrain d s).role = s.role ∧ (completeDrain d s).porst = s.porst ∧ (completeDrain d s).srst = s.srst ∧
    (completeDrain d s).markPin = s.markPin ∧ (completeDrain d s).drainPin = s.drainPin ∧ (completeDrain d s).sp = s.sp ∧
    (completeDrain d s).control = s.control ∧ (completeDrain d s).cfg = s.cfg ∧ (completeDrain d s).enables = s.enables ∧
    (completeDrain d s).counters = s.counters ∧ (completeDrain d s).regions = s.regions ∧ (completeDrain d s).sys = s.sys ∧
    (completeDrain d s).mem = s.mem ∧ (completeDrain d s).journal = s.journal ∧ (completeDrain d s).dirty = s.dirty ∧
    (completeDrain d s).copy = s.copy ∧ (completeDrain d s).link = s.link ∧ (completeDrain d s).tx = s.tx ∧
    (completeDrain d s).rx = s.rx ∧ (completeDrain d s).apply = s.apply ∧ (completeDrain d s).reports = s.reports ∧
    (completeDrain d s).choices = s.choices ∧ (completeDrain d s).pending = s.pending :=
  ⟨rfl, rfl, rfl, rfl, rfl, rfl, rfl, rfl, rfl, rfl, rfl, rfl, rfl, rfl, rfl, rfl, rfl, rfl, rfl, rfl, rfl, rfl, rfl⟩

/-- What `takeRemovedMark` leaves unchanged. -/
@[simp] theorem takeRemovedMark_keeps (m : RemovedMark) (s : State) :
    (takeRemovedMark s m).role = s.role ∧ (takeRemovedMark s m).porst = s.porst ∧ (takeRemovedMark s m).srst = s.srst ∧
    (takeRemovedMark s m).markPin = s.markPin ∧ (takeRemovedMark s m).drainPin = s.drainPin ∧ (takeRemovedMark s m).sp = s.sp ∧
    (takeRemovedMark s m).control = s.control ∧ (takeRemovedMark s m).cfg = s.cfg ∧ (takeRemovedMark s m).enables = s.enables ∧
    (takeRemovedMark s m).counters = s.counters ∧ (takeRemovedMark s m).regions = s.regions ∧ (takeRemovedMark s m).sys = s.sys ∧
    (takeRemovedMark s m).mem = s.mem ∧ (takeRemovedMark s m).journal = s.journal ∧ (takeRemovedMark s m).dirty = s.dirty ∧
    (takeRemovedMark s m).copy = s.copy ∧ (takeRemovedMark s m).link = s.link ∧ (takeRemovedMark s m).tx = s.tx ∧
    (takeRemovedMark s m).rx = s.rx ∧ (takeRemovedMark s m).apply = s.apply ∧ (takeRemovedMark s m).reports = s.reports ∧
    (takeRemovedMark s m).choices = s.choices ∧ (takeRemovedMark s m).pending = s.pending := by
  unfold takeRemovedMark
  (try dsimp only)
  (repeat' split) <;> simp

/-- What `takeRemovedMarks` leaves unchanged. -/
@[simp] theorem takeRemovedMarks_keeps (marks : List RemovedMark) (s : State) :
    (takeRemovedMarks marks s).role = s.role ∧ (takeRemovedMarks marks s).porst = s.porst ∧ (takeRemovedMarks marks s).srst = s.srst ∧
    (takeRemovedMarks marks s).markPin = s.markPin ∧ (takeRemovedMarks marks s).drainPin = s.drainPin ∧ (takeRemovedMarks marks s).sp = s.sp ∧
    (takeRemovedMarks marks s).control = s.control ∧ (takeRemovedMarks marks s).cfg = s.cfg ∧ (takeRemovedMarks marks s).enables = s.enables ∧
    (takeRemovedMarks marks s).counters = s.counters ∧ (takeRemovedMarks marks s).regions = s.regions ∧ (takeRemovedMarks marks s).sys = s.sys ∧
    (takeRemovedMarks marks s).mem = s.mem ∧ (takeRemovedMarks marks s).journal = s.journal ∧ (takeRemovedMarks marks s).dirty = s.dirty ∧
    (takeRemovedMarks marks s).copy = s.copy ∧ (takeRemovedMarks marks s).link = s.link ∧ (takeRemovedMarks marks s).tx = s.tx ∧
    (takeRemovedMarks marks s).rx = s.rx ∧ (takeRemovedMarks marks s).apply = s.apply ∧ (takeRemovedMarks marks s).reports = s.reports ∧
    (takeRemovedMarks marks s).choices = s.choices ∧ (takeRemovedMarks marks s).pending = s.pending := by
  unfold takeRemovedMarks
  induction marks generalizing s with
  | nil => simp
  | cons m ms ih => simpa using ih (takeRemovedMark s m)

/-- What `appendAndCheck` leaves unchanged. -/
@[simp] theorem appendAndCheck_keeps (s : State) :
    (appendAndCheck s).role = s.role ∧ (appendAndCheck s).porst = s.porst ∧ (appendAndCheck s).srst = s.srst ∧
    (appendAndCheck s).markPin = s.markPin ∧ (appendAndCheck s).drainPin = s.drainPin ∧ (appendAndCheck s).sp = s.sp ∧
    (appendAndCheck s).control = s.control ∧ (appendAndCheck s).cfg = s.cfg ∧ (appendAndCheck s).enables = s.enables ∧
    (appendAndCheck s).counters = s.counters ∧ (appendAndCheck s).regions = s.regions ∧ (appendAndCheck s).sys = s.sys ∧
    (appendAndCheck s).mem = s.mem ∧ (appendAndCheck s).dirty = s.dirty ∧ (appendAndCheck s).copy = s.copy ∧
    (appendAndCheck s).link = s.link ∧ (appendAndCheck s).tx = s.tx ∧ (appendAndCheck s).rx = s.rx ∧
    (appendAndCheck s).apply = s.apply ∧ (appendAndCheck s).reports = s.reports ∧ (appendAndCheck s).pending = s.pending := by
  unfold appendAndCheck
  (try dsimp only)
  (repeat' split) <;> simp

/-- What `markPinRequest` leaves unchanged. -/
@[simp] theorem markPinRequest_keeps (s : State) :
    (markPinRequest s).role = s.role ∧ (markPinRequest s).porst = s.porst ∧ (markPinRequest s).srst = s.srst ∧
    (markPinRequest s).markPin = s.markPin ∧ (markPinRequest s).drainPin = s.drainPin ∧ (markPinRequest s).sp = s.sp ∧
    (markPinRequest s).control = s.control ∧ (markPinRequest s).cfg = s.cfg ∧ (markPinRequest s).enables = s.enables ∧
    (markPinRequest s).counters = s.counters ∧ (markPinRequest s).regions = s.regions ∧ (markPinRequest s).sys = s.sys ∧
    (markPinRequest s).mem = s.mem ∧ (markPinRequest s).dirty = s.dirty ∧ (markPinRequest s).copy = s.copy ∧
    (markPinRequest s).link = s.link ∧ (markPinRequest s).tx = s.tx ∧ (markPinRequest s).rx = s.rx ∧
    (markPinRequest s).apply = s.apply ∧ (markPinRequest s).reports = s.reports ∧ (markPinRequest s).choices = s.choices ∧
    (markPinRequest s).pending = s.pending := by
  unfold markPinRequest
  (try dsimp only)
  (repeat' split) <;> simp

/-- What `drainPinRequest` leaves unchanged. -/
@[simp] theorem drainPinRequest_keeps (s : State) :
    (drainPinRequest s).role = s.role ∧ (drainPinRequest s).porst = s.porst ∧ (drainPinRequest s).srst = s.srst ∧
    (drainPinRequest s).markPin = s.markPin ∧ (drainPinRequest s).drainPin = s.drainPin ∧ (drainPinRequest s).sp = s.sp ∧
    (drainPinRequest s).control = s.control ∧ (drainPinRequest s).cfg = s.cfg ∧ (drainPinRequest s).enables = s.enables ∧
    (drainPinRequest s).counters = s.counters ∧ (drainPinRequest s).regions = s.regions ∧ (drainPinRequest s).sys = s.sys ∧
    (drainPinRequest s).mem = s.mem ∧ (drainPinRequest s).dirty = s.dirty ∧ (drainPinRequest s).copy = s.copy ∧
    (drainPinRequest s).link = s.link ∧ (drainPinRequest s).tx = s.tx ∧ (drainPinRequest s).rx = s.rx ∧
    (drainPinRequest s).apply = s.apply ∧ (drainPinRequest s).reports = s.reports ∧ (drainPinRequest s).choices = s.choices ∧
    (drainPinRequest s).pending = s.pending := by
  unfold drainPinRequest
  (try dsimp only)
  (repeat' split) <;> simp

/-! ### SystemPort -/

/-- What `fenceWrite` leaves unchanged. -/
@[simp] theorem fenceWrite_keeps (t : Transaction) (s : State) :
    (fenceWrite t s).role = s.role ∧ (fenceWrite t s).porst = s.porst ∧ (fenceWrite t s).srst = s.srst ∧
    (fenceWrite t s).markPin = s.markPin ∧ (fenceWrite t s).drainPin = s.drainPin ∧ (fenceWrite t s).sp = s.sp ∧
    (fenceWrite t s).control = s.control ∧ (fenceWrite t s).cfg = s.cfg ∧ (fenceWrite t s).enables = s.enables ∧
    (fenceWrite t s).regions = s.regions ∧ (fenceWrite t s).mem = s.mem ∧ (fenceWrite t s).journal = s.journal ∧
    (fenceWrite t s).dirty = s.dirty ∧ (fenceWrite t s).copy = s.copy ∧ (fenceWrite t s).mirror = s.mirror ∧
    (fenceWrite t s).link = s.link ∧ (fenceWrite t s).tx = s.tx ∧ (fenceWrite t s).rx = s.rx ∧
    (fenceWrite t s).apply = s.apply ∧ (fenceWrite t s).reports = s.reports ∧ (fenceWrite t s).choices = s.choices ∧
    (fenceWrite t s).pending = s.pending :=
  ⟨rfl, rfl, rfl, rfl, rfl, rfl, rfl, rfl, rfl, rfl, rfl, rfl, rfl, rfl, rfl, rfl, rfl, rfl, rfl, rfl, rfl, rfl⟩

/-- What `toMemory` leaves unchanged. -/
@[simp] theorem toMemory_keeps (t : Transaction) (s : State) :
    (toMemory t s).role = s.role ∧ (toMemory t s).porst = s.porst ∧ (toMemory t s).srst = s.srst ∧
    (toMemory t s).markPin = s.markPin ∧ (toMemory t s).drainPin = s.drainPin ∧ (toMemory t s).sp = s.sp ∧
    (toMemory t s).control = s.control ∧ (toMemory t s).cfg = s.cfg ∧ (toMemory t s).causes = s.causes ∧
    (toMemory t s).enables = s.enables ∧ (toMemory t s).counters = s.counters ∧ (toMemory t s).regions = s.regions ∧
    (toMemory t s).journal = s.journal ∧ (toMemory t s).dirty = s.dirty ∧ (toMemory t s).copy = s.copy ∧
    (toMemory t s).mirror = s.mirror ∧ (toMemory t s).link = s.link ∧ (toMemory t s).tx = s.tx ∧
    (toMemory t s).rx = s.rx ∧ (toMemory t s).apply = s.apply ∧ (toMemory t s).reports = s.reports ∧
    (toMemory t s).choices = s.choices ∧ (toMemory t s).pending = s.pending :=
  ⟨rfl, rfl, rfl, rfl, rfl, rfl, rfl, rfl, rfl, rfl, rfl, rfl, rfl, rfl, rfl, rfl, rfl, rfl, rfl, rfl, rfl, rfl, rfl⟩

/-- What `mergeWrite` leaves unchanged. -/
@[simp] theorem mergeWrite_keeps (t : Transaction) (s : State) :
    (mergeWrite t s).role = s.role ∧ (mergeWrite t s).porst = s.porst ∧ (mergeWrite t s).srst = s.srst ∧
    (mergeWrite t s).markPin = s.markPin ∧ (mergeWrite t s).drainPin = s.drainPin ∧ (mergeWrite t s).sp = s.sp ∧
    (mergeWrite t s).control = s.control ∧ (mergeWrite t s).cfg = s.cfg ∧ (mergeWrite t s).causes = s.causes ∧
    (mergeWrite t s).enables = s.enables ∧ (mergeWrite t s).counters = s.counters ∧ (mergeWrite t s).regions = s.regions ∧
    (mergeWrite t s).sys = s.sys ∧ (mergeWrite t s).mem = s.mem ∧ (mergeWrite t s).dirty = s.dirty ∧
    (mergeWrite t s).copy = s.copy ∧ (mergeWrite t s).mirror = s.mirror ∧ (mergeWrite t s).link = s.link ∧
    (mergeWrite t s).tx = s.tx ∧ (mergeWrite t s).rx = s.rx ∧ (mergeWrite t s).apply = s.apply ∧
    (mergeWrite t s).reports = s.reports ∧ (mergeWrite t s).choices = s.choices ∧ (mergeWrite t s).pending = s.pending :=
  ⟨rfl, rfl, rfl, rfl, rfl, rfl, rfl, rfl, rfl, rfl, rfl, rfl, rfl, rfl, rfl, rfl, rfl, rfl, rfl, rfl, rfl, rfl, rfl, rfl⟩

/-- What `appendWrite` leaves unchanged. -/
@[simp] theorem appendWrite_keeps (t : Transaction) (s : State) :
    (appendWrite t s).role = s.role ∧ (appendWrite t s).porst = s.porst ∧ (appendWrite t s).srst = s.srst ∧
    (appendWrite t s).markPin = s.markPin ∧ (appendWrite t s).drainPin = s.drainPin ∧ (appendWrite t s).sp = s.sp ∧
    (appendWrite t s).control = s.control ∧ (appendWrite t s).cfg = s.cfg ∧ (appendWrite t s).causes = s.causes ∧
    (appendWrite t s).enables = s.enables ∧ (appendWrite t s).counters = s.counters ∧ (appendWrite t s).regions = s.regions ∧
    (appendWrite t s).sys = s.sys ∧ (appendWrite t s).mem = s.mem ∧ (appendWrite t s).dirty = s.dirty ∧
    (appendWrite t s).copy = s.copy ∧ (appendWrite t s).mirror = s.mirror ∧ (appendWrite t s).link = s.link ∧
    (appendWrite t s).tx = s.tx ∧ (appendWrite t s).rx = s.rx ∧ (appendWrite t s).apply = s.apply ∧
    (appendWrite t s).reports = s.reports ∧ (appendWrite t s).choices = s.choices ∧ (appendWrite t s).pending = s.pending :=
  ⟨rfl, rfl, rfl, rfl, rfl, rfl, rfl, rfl, rfl, rfl, rfl, rfl, rfl, rfl, rfl, rfl, rfl, rfl, rfl, rfl, rfl, rfl, rfl, rfl⟩

/-- What `holdWrite` leaves unchanged. -/
@[simp] theorem holdWrite_keeps (t : Transaction) (s : State) :
    (holdWrite t s).role = s.role ∧ (holdWrite t s).porst = s.porst ∧ (holdWrite t s).srst = s.srst ∧
    (holdWrite t s).markPin = s.markPin ∧ (holdWrite t s).drainPin = s.drainPin ∧ (holdWrite t s).sp = s.sp ∧
    (holdWrite t s).control = s.control ∧ (holdWrite t s).cfg = s.cfg ∧ (holdWrite t s).causes = s.causes ∧
    (holdWrite t s).enables = s.enables ∧ (holdWrite t s).regions = s.regions ∧ (holdWrite t s).mem = s.mem ∧
    (holdWrite t s).journal = s.journal ∧ (holdWrite t s).dirty = s.dirty ∧ (holdWrite t s).copy = s.copy ∧
    (holdWrite t s).mirror = s.mirror ∧ (holdWrite t s).link = s.link ∧ (holdWrite t s).tx = s.tx ∧
    (holdWrite t s).rx = s.rx ∧ (holdWrite t s).apply = s.apply ∧ (holdWrite t s).reports = s.reports ∧
    (holdWrite t s).choices = s.choices ∧ (holdWrite t s).pending = s.pending :=
  ⟨rfl, rfl, rfl, rfl, rfl, rfl, rfl, rfl, rfl, rfl, rfl, rfl, rfl, rfl, rfl, rfl, rfl, rfl, rfl, rfl, rfl, rfl, rfl⟩

/-- What `markWrite` leaves unchanged. -/
@[simp] theorem markWrite_keeps (t : Transaction) (s : State) :
    (markWrite t s).role = s.role ∧ (markWrite t s).porst = s.porst ∧ (markWrite t s).srst = s.srst ∧
    (markWrite t s).markPin = s.markPin ∧ (markWrite t s).drainPin = s.drainPin ∧ (markWrite t s).sp = s.sp ∧
    (markWrite t s).control = s.control ∧ (markWrite t s).cfg = s.cfg ∧ (markWrite t s).causes = s.causes ∧
    (markWrite t s).enables = s.enables ∧ (markWrite t s).counters = s.counters ∧ (markWrite t s).regions = s.regions ∧
    (markWrite t s).mem = s.mem ∧ (markWrite t s).journal = s.journal ∧ (markWrite t s).mirror = s.mirror ∧
    (markWrite t s).link = s.link ∧ (markWrite t s).tx = s.tx ∧ (markWrite t s).rx = s.rx ∧
    (markWrite t s).apply = s.apply ∧ (markWrite t s).choices = s.choices ∧ (markWrite t s).pending = s.pending := by
  unfold markWrite
  (try dsimp only)
  (repeat' split) <;> simp

/-- What `capture` leaves unchanged. -/
@[simp] theorem capture_keeps (t : Transaction) (s : State) :
    (capture t s).role = s.role ∧ (capture t s).porst = s.porst ∧ (capture t s).srst = s.srst ∧
    (capture t s).markPin = s.markPin ∧ (capture t s).drainPin = s.drainPin ∧ (capture t s).sp = s.sp ∧
    (capture t s).control = s.control ∧ (capture t s).cfg = s.cfg ∧ (capture t s).causes = s.causes ∧
    (capture t s).enables = s.enables ∧ (capture t s).regions = s.regions ∧ (capture t s).mem = s.mem ∧
    (capture t s).mirror = s.mirror ∧ (capture t s).link = s.link ∧ (capture t s).tx = s.tx ∧
    (capture t s).rx = s.rx ∧ (capture t s).apply = s.apply ∧ (capture t s).choices = s.choices ∧
    (capture t s).pending = s.pending := by
  unfold capture
  (try dsimp only)
  (repeat' split) <;> simp

/-- What `originWriteOk` leaves unchanged. -/
@[simp] theorem originWriteOk_keeps (t : Transaction) (s : State) :
    (originWriteOk t s).role = s.role ∧ (originWriteOk t s).porst = s.porst ∧ (originWriteOk t s).srst = s.srst ∧
    (originWriteOk t s).markPin = s.markPin ∧ (originWriteOk t s).drainPin = s.drainPin ∧ (originWriteOk t s).sp = s.sp ∧
    (originWriteOk t s).control = s.control ∧ (originWriteOk t s).cfg = s.cfg ∧ (originWriteOk t s).causes = s.causes ∧
    (originWriteOk t s).enables = s.enables ∧ (originWriteOk t s).regions = s.regions ∧ (originWriteOk t s).mem = s.mem ∧
    (originWriteOk t s).mirror = s.mirror ∧ (originWriteOk t s).link = s.link ∧ (originWriteOk t s).tx = s.tx ∧
    (originWriteOk t s).rx = s.rx ∧ (originWriteOk t s).apply = s.apply ∧ (originWriteOk t s).choices = s.choices ∧
    (originWriteOk t s).pending = s.pending := by
  unfold originWriteOk
  (try dsimp only)
  (repeat' split) <;> simp

/-- What `systemAnswer` leaves unchanged. -/
@[simp] theorem systemAnswer_keeps (t : Transaction) (answer : MemAnswer) (data : Line) (s : State) :
    (systemAnswer t answer data s).role = s.role ∧ (systemAnswer t answer data s).porst = s.porst ∧ (systemAnswer t answer data s).srst = s.srst ∧
    (systemAnswer t answer data s).markPin = s.markPin ∧ (systemAnswer t answer data s).drainPin = s.drainPin ∧ (systemAnswer t answer data s).sp = s.sp ∧
    (systemAnswer t answer data s).control = s.control ∧ (systemAnswer t answer data s).cfg = s.cfg ∧ (systemAnswer t answer data s).causes = s.causes ∧
    (systemAnswer t answer data s).enables = s.enables ∧ (systemAnswer t answer data s).regions = s.regions ∧ (systemAnswer t answer data s).mem = s.mem ∧
    (systemAnswer t answer data s).mirror = s.mirror ∧ (systemAnswer t answer data s).link = s.link ∧ (systemAnswer t answer data s).tx = s.tx ∧
    (systemAnswer t answer data s).rx = s.rx ∧ (systemAnswer t answer data s).apply = s.apply ∧ (systemAnswer t answer data s).choices = s.choices ∧
    (systemAnswer t answer data s).pending = s.pending := by
  unfold systemAnswer
  (try dsimp only)
  (repeat' split) <;> simp

/-- What `settleAbandoned` leaves unchanged. -/
@[simp] theorem settleAbandoned_keeps (m : MemTransaction) (answer : MemAnswer) (s : State) :
    (settleAbandoned m answer s).role = s.role ∧ (settleAbandoned m answer s).porst = s.porst ∧ (settleAbandoned m answer s).srst = s.srst ∧
    (settleAbandoned m answer s).markPin = s.markPin ∧ (settleAbandoned m answer s).drainPin = s.drainPin ∧ (settleAbandoned m answer s).sp = s.sp ∧
    (settleAbandoned m answer s).control = s.control ∧ (settleAbandoned m answer s).cfg = s.cfg ∧ (settleAbandoned m answer s).causes = s.causes ∧
    (settleAbandoned m answer s).enables = s.enables ∧ (settleAbandoned m answer s).counters = s.counters ∧ (settleAbandoned m answer s).regions = s.regions ∧
    (settleAbandoned m answer s).sys = s.sys ∧ (settleAbandoned m answer s).mem = s.mem ∧ (settleAbandoned m answer s).journal = s.journal ∧
    (settleAbandoned m answer s).mirror = s.mirror ∧ (settleAbandoned m answer s).link = s.link ∧ (settleAbandoned m answer s).tx = s.tx ∧
    (settleAbandoned m answer s).rx = s.rx ∧ (settleAbandoned m answer s).apply = s.apply ∧ (settleAbandoned m answer s).choices = s.choices ∧
    (settleAbandoned m answer s).pending = s.pending := by
  unfold settleAbandoned
  (try dsimp only)
  (repeat' split) <;> simp

/-- What `releaseIntoJournal` leaves unchanged. -/
@[simp] theorem releaseIntoJournal_keeps (t : Transaction) (s : State) :
    (releaseIntoJournal t s).role = s.role ∧ (releaseIntoJournal t s).porst = s.porst ∧ (releaseIntoJournal t s).srst = s.srst ∧
    (releaseIntoJournal t s).markPin = s.markPin ∧ (releaseIntoJournal t s).drainPin = s.drainPin ∧ (releaseIntoJournal t s).sp = s.sp ∧
    (releaseIntoJournal t s).control = s.control ∧ (releaseIntoJournal t s).cfg = s.cfg ∧ (releaseIntoJournal t s).causes = s.causes ∧
    (releaseIntoJournal t s).enables = s.enables ∧ (releaseIntoJournal t s).counters = s.counters ∧ (releaseIntoJournal t s).regions = s.regions ∧
    (releaseIntoJournal t s).mem = s.mem ∧ (releaseIntoJournal t s).dirty = s.dirty ∧ (releaseIntoJournal t s).copy = s.copy ∧
    (releaseIntoJournal t s).mirror = s.mirror ∧ (releaseIntoJournal t s).link = s.link ∧ (releaseIntoJournal t s).tx = s.tx ∧
    (releaseIntoJournal t s).rx = s.rx ∧ (releaseIntoJournal t s).apply = s.apply ∧ (releaseIntoJournal t s).reports = s.reports ∧
    (releaseIntoJournal t s).choices = s.choices ∧ (releaseIntoJournal t s).pending = s.pending := by
  unfold releaseIntoJournal
  (try dsimp only)
  (repeat' split) <;> simp

/-- What `settleSrst` leaves unchanged. -/
@[simp] theorem settleSrst_keeps (s : State) :
    (settleSrst s).role = s.role ∧ (settleSrst s).porst = s.porst ∧ (settleSrst s).srst = s.srst ∧
    (settleSrst s).markPin = s.markPin ∧ (settleSrst s).drainPin = s.drainPin ∧ (settleSrst s).sp = s.sp ∧
    (settleSrst s).control = s.control ∧ (settleSrst s).cfg = s.cfg ∧ (settleSrst s).causes = s.causes ∧
    (settleSrst s).enables = s.enables ∧ (settleSrst s).counters = s.counters ∧ (settleSrst s).regions = s.regions ∧
    (settleSrst s).sys = s.sys ∧ (settleSrst s).journal = s.journal ∧ (settleSrst s).copy = s.copy ∧
    (settleSrst s).mirror = s.mirror ∧ (settleSrst s).link = s.link ∧ (settleSrst s).tx = s.tx ∧
    (settleSrst s).rx = s.rx ∧ (settleSrst s).apply = s.apply ∧ (settleSrst s).choices = s.choices ∧
    (settleSrst s).pending = s.pending := by
  unfold settleSrst
  (try dsimp only)
  (repeat' split) <;> simp

/-! ### ApplyEngine -/

/-- What `releaseSlot` leaves unchanged. -/
@[simp] theorem releaseSlot_keeps (s : State) :
    (releaseSlot s).role = s.role ∧ (releaseSlot s).porst = s.porst ∧ (releaseSlot s).srst = s.srst ∧
    (releaseSlot s).markPin = s.markPin ∧ (releaseSlot s).drainPin = s.drainPin ∧ (releaseSlot s).sp = s.sp ∧
    (releaseSlot s).control = s.control ∧ (releaseSlot s).cfg = s.cfg ∧ (releaseSlot s).causes = s.causes ∧
    (releaseSlot s).enables = s.enables ∧ (releaseSlot s).counters = s.counters ∧ (releaseSlot s).regions = s.regions ∧
    (releaseSlot s).sys = s.sys ∧ (releaseSlot s).mem = s.mem ∧ (releaseSlot s).journal = s.journal ∧
    (releaseSlot s).dirty = s.dirty ∧ (releaseSlot s).copy = s.copy ∧ (releaseSlot s).mirror = s.mirror ∧
    (releaseSlot s).link = s.link ∧ (releaseSlot s).tx = s.tx ∧ (releaseSlot s).apply = s.apply ∧
    (releaseSlot s).reports = s.reports ∧ (releaseSlot s).choices = s.choices ∧ (releaseSlot s).pending = s.pending :=
  ⟨rfl, rfl, rfl, rfl, rfl, rfl, rfl, rfl, rfl, rfl, rfl, rfl, rfl, rfl, rfl, rfl, rfl, rfl, rfl, rfl, rfl, rfl, rfl, rfl⟩

/-- What `flushSlots` leaves unchanged. -/
@[simp] theorem flushSlots_keeps (s : State) :
    (flushSlots s).role = s.role ∧ (flushSlots s).porst = s.porst ∧ (flushSlots s).srst = s.srst ∧
    (flushSlots s).markPin = s.markPin ∧ (flushSlots s).drainPin = s.drainPin ∧ (flushSlots s).sp = s.sp ∧
    (flushSlots s).control = s.control ∧ (flushSlots s).cfg = s.cfg ∧ (flushSlots s).causes = s.causes ∧
    (flushSlots s).enables = s.enables ∧ (flushSlots s).counters = s.counters ∧ (flushSlots s).regions = s.regions ∧
    (flushSlots s).sys = s.sys ∧ (flushSlots s).mem = s.mem ∧ (flushSlots s).journal = s.journal ∧
    (flushSlots s).dirty = s.dirty ∧ (flushSlots s).copy = s.copy ∧ (flushSlots s).mirror = s.mirror ∧
    (flushSlots s).link = s.link ∧ (flushSlots s).tx = s.tx ∧ (flushSlots s).apply = s.apply ∧
    (flushSlots s).reports = s.reports ∧ (flushSlots s).choices = s.choices ∧ (flushSlots s).pending = s.pending := by
  unfold flushSlots
  (try dsimp only)
  (repeat' split) <;> simp

/-- What `offerAck` leaves unchanged. -/
@[simp] theorem offerAck_keeps (s : State) :
    (offerAck s).role = s.role ∧ (offerAck s).porst = s.porst ∧ (offerAck s).srst = s.srst ∧
    (offerAck s).markPin = s.markPin ∧ (offerAck s).drainPin = s.drainPin ∧ (offerAck s).sp = s.sp ∧
    (offerAck s).control = s.control ∧ (offerAck s).cfg = s.cfg ∧ (offerAck s).causes = s.causes ∧
    (offerAck s).enables = s.enables ∧ (offerAck s).counters = s.counters ∧ (offerAck s).regions = s.regions ∧
    (offerAck s).sys = s.sys ∧ (offerAck s).mem = s.mem ∧ (offerAck s).journal = s.journal ∧
    (offerAck s).dirty = s.dirty ∧ (offerAck s).copy = s.copy ∧ (offerAck s).mirror = s.mirror ∧
    (offerAck s).link = s.link ∧ (offerAck s).rx = s.rx ∧ (offerAck s).reports = s.reports ∧
    (offerAck s).choices = s.choices ∧ (offerAck s).pending = s.pending := by
  unfold offerAck
  (try dsimp only)
  (repeat' split) <;> simp

/-- What `offerNak` leaves unchanged. -/
@[simp] theorem offerNak_keeps (s : State) :
    (offerNak s).role = s.role ∧ (offerNak s).porst = s.porst ∧ (offerNak s).srst = s.srst ∧
    (offerNak s).markPin = s.markPin ∧ (offerNak s).drainPin = s.drainPin ∧ (offerNak s).sp = s.sp ∧
    (offerNak s).control = s.control ∧ (offerNak s).cfg = s.cfg ∧ (offerNak s).causes = s.causes ∧
    (offerNak s).enables = s.enables ∧ (offerNak s).counters = s.counters ∧ (offerNak s).regions = s.regions ∧
    (offerNak s).sys = s.sys ∧ (offerNak s).mem = s.mem ∧ (offerNak s).journal = s.journal ∧
    (offerNak s).dirty = s.dirty ∧ (offerNak s).copy = s.copy ∧ (offerNak s).mirror = s.mirror ∧
    (offerNak s).link = s.link ∧ (offerNak s).rx = s.rx ∧ (offerNak s).reports = s.reports ∧
    (offerNak s).choices = s.choices ∧ (offerNak s).pending = s.pending := by
  unfold offerNak
  (try dsimp only)
  (repeat' split) <;> simp

/-- What `applyEnd` leaves unchanged. -/
@[simp] theorem applyEnd_keeps (s : State) :
    (applyEnd s).role = s.role ∧ (applyEnd s).porst = s.porst ∧ (applyEnd s).srst = s.srst ∧
    (applyEnd s).markPin = s.markPin ∧ (applyEnd s).drainPin = s.drainPin ∧ (applyEnd s).sp = s.sp ∧
    (applyEnd s).control = s.control ∧ (applyEnd s).cfg = s.cfg ∧ (applyEnd s).causes = s.causes ∧
    (applyEnd s).enables = s.enables ∧ (applyEnd s).counters = s.counters ∧ (applyEnd s).regions = s.regions ∧
    (applyEnd s).sys = s.sys ∧ (applyEnd s).mem = s.mem ∧ (applyEnd s).journal = s.journal ∧
    (applyEnd s).dirty = s.dirty ∧ (applyEnd s).copy = s.copy ∧ (applyEnd s).mirror = s.mirror ∧
    (applyEnd s).link = s.link ∧ (applyEnd s).reports = s.reports ∧ (applyEnd s).choices = s.choices ∧
    (applyEnd s).pending = s.pending := by
  unfold applyEnd
  (try dsimp only)
  (repeat' split) <;> simp

/-- What `presentWrite` leaves unchanged. -/
@[simp] theorem presentWrite_keeps (seq : Seq) (line : Fin 64) (address : Addr) (mask : Mask) (data : Line) (s : State) :
    (presentWrite seq line address mask data s).role = s.role ∧ (presentWrite seq line address mask data s).porst = s.porst ∧ (presentWrite seq line address mask data s).srst = s.srst ∧
    (presentWrite seq line address mask data s).markPin = s.markPin ∧ (presentWrite seq line address mask data s).drainPin = s.drainPin ∧ (presentWrite seq line address mask data s).sp = s.sp ∧
    (presentWrite seq line address mask data s).control = s.control ∧ (presentWrite seq line address mask data s).cfg = s.cfg ∧ (presentWrite seq line address mask data s).causes = s.causes ∧
    (presentWrite seq line address mask data s).enables = s.enables ∧ (presentWrite seq line address mask data s).counters = s.counters ∧ (presentWrite seq line address mask data s).regions = s.regions ∧
    (presentWrite seq line address mask data s).sys = s.sys ∧ (presentWrite seq line address mask data s).journal = s.journal ∧ (presentWrite seq line address mask data s).dirty = s.dirty ∧
    (presentWrite seq line address mask data s).copy = s.copy ∧ (presentWrite seq line address mask data s).mirror = s.mirror ∧ (presentWrite seq line address mask data s).link = s.link ∧
    (presentWrite seq line address mask data s).tx = s.tx ∧ (presentWrite seq line address mask data s).rx = s.rx ∧ (presentWrite seq line address mask data s).apply = s.apply ∧
    (presentWrite seq line address mask data s).reports = s.reports ∧ (presentWrite seq line address mask data s).choices = s.choices ∧ (presentWrite seq line address mask data s).pending = s.pending :=
  ⟨rfl, rfl, rfl, rfl, rfl, rfl, rfl, rfl, rfl, rfl, rfl, rfl, rfl, rfl, rfl, rfl, rfl, rfl, rfl, rfl, rfl, rfl, rfl, rfl⟩

/-- What `presentBlockLine` leaves unchanged. -/
@[simp] theorem presentBlockLine_keeps (seq : Seq) (number : Block) (lines : Vector Line 64) (i : Fin 64) (s : State) :
    (presentBlockLine seq number lines i s).role = s.role ∧ (presentBlockLine seq number lines i s).porst = s.porst ∧ (presentBlockLine seq number lines i s).srst = s.srst ∧
    (presentBlockLine seq number lines i s).markPin = s.markPin ∧ (presentBlockLine seq number lines i s).drainPin = s.drainPin ∧ (presentBlockLine seq number lines i s).sp = s.sp ∧
    (presentBlockLine seq number lines i s).control = s.control ∧ (presentBlockLine seq number lines i s).cfg = s.cfg ∧ (presentBlockLine seq number lines i s).causes = s.causes ∧
    (presentBlockLine seq number lines i s).enables = s.enables ∧ (presentBlockLine seq number lines i s).counters = s.counters ∧ (presentBlockLine seq number lines i s).regions = s.regions ∧
    (presentBlockLine seq number lines i s).sys = s.sys ∧ (presentBlockLine seq number lines i s).journal = s.journal ∧ (presentBlockLine seq number lines i s).dirty = s.dirty ∧
    (presentBlockLine seq number lines i s).copy = s.copy ∧ (presentBlockLine seq number lines i s).mirror = s.mirror ∧ (presentBlockLine seq number lines i s).link = s.link ∧
    (presentBlockLine seq number lines i s).tx = s.tx ∧ (presentBlockLine seq number lines i s).rx = s.rx ∧ (presentBlockLine seq number lines i s).apply = s.apply ∧
    (presentBlockLine seq number lines i s).reports = s.reports ∧ (presentBlockLine seq number lines i s).choices = s.choices ∧ (presentBlockLine seq number lines i s).pending = s.pending :=
  ⟨rfl, rfl, rfl, rfl, rfl, rfl, rfl, rfl, rfl, rfl, rfl, rfl, rfl, rfl, rfl, rfl, rfl, rfl, rfl, rfl, rfl, rfl, rfl, rfl⟩

/-- What `applyMark` leaves unchanged. -/
@[simp] theorem applyMark_keeps (number : MarkNo) (consistent : Bool) (s : State) :
    (applyMark number consistent s).role = s.role ∧ (applyMark number consistent s).porst = s.porst ∧ (applyMark number consistent s).srst = s.srst ∧
    (applyMark number consistent s).markPin = s.markPin ∧ (applyMark number consistent s).drainPin = s.drainPin ∧ (applyMark number consistent s).sp = s.sp ∧
    (applyMark number consistent s).control = s.control ∧ (applyMark number consistent s).cfg = s.cfg ∧ (applyMark number consistent s).causes = s.causes ∧
    (applyMark number consistent s).enables = s.enables ∧ (applyMark number consistent s).counters = s.counters ∧ (applyMark number consistent s).regions = s.regions ∧
    (applyMark number consistent s).sys = s.sys ∧ (applyMark number consistent s).mem = s.mem ∧ (applyMark number consistent s).journal = s.journal ∧
    (applyMark number consistent s).dirty = s.dirty ∧ (applyMark number consistent s).copy = s.copy ∧ (applyMark number consistent s).mirror = s.mirror ∧
    (applyMark number consistent s).link = s.link ∧ (applyMark number consistent s).reports = s.reports ∧ (applyMark number consistent s).choices = s.choices ∧
    (applyMark number consistent s).pending = s.pending := by
  unfold applyMark
  (try dsimp only)
  (repeat' split) <;> simp

/-- What `applyPoisoned` leaves unchanged. -/
@[simp] theorem applyPoisoned_keeps (s : State) :
    (applyPoisoned s).role = s.role ∧ (applyPoisoned s).porst = s.porst ∧ (applyPoisoned s).srst = s.srst ∧
    (applyPoisoned s).markPin = s.markPin ∧ (applyPoisoned s).drainPin = s.drainPin ∧ (applyPoisoned s).sp = s.sp ∧
    (applyPoisoned s).control = s.control ∧ (applyPoisoned s).cfg = s.cfg ∧ (applyPoisoned s).causes = s.causes ∧
    (applyPoisoned s).enables = s.enables ∧ (applyPoisoned s).regions = s.regions ∧ (applyPoisoned s).sys = s.sys ∧
    (applyPoisoned s).mem = s.mem ∧ (applyPoisoned s).journal = s.journal ∧ (applyPoisoned s).dirty = s.dirty ∧
    (applyPoisoned s).copy = s.copy ∧ (applyPoisoned s).mirror = s.mirror ∧ (applyPoisoned s).link = s.link ∧
    (applyPoisoned s).reports = s.reports ∧ (applyPoisoned s).choices = s.choices ∧ (applyPoisoned s).pending = s.pending := by
  unfold applyPoisoned
  (try dsimp only)
  (repeat' split) <;> simp

/-- What `enterWriting` leaves unchanged. -/
@[simp] theorem enterWriting_keeps (s : State) :
    (enterWriting s).role = s.role ∧ (enterWriting s).porst = s.porst ∧ (enterWriting s).srst = s.srst ∧
    (enterWriting s).markPin = s.markPin ∧ (enterWriting s).drainPin = s.drainPin ∧ (enterWriting s).sp = s.sp ∧
    (enterWriting s).control = s.control ∧ (enterWriting s).cfg = s.cfg ∧ (enterWriting s).causes = s.causes ∧
    (enterWriting s).enables = s.enables ∧ (enterWriting s).counters = s.counters ∧ (enterWriting s).regions = s.regions ∧
    (enterWriting s).sys = s.sys ∧ (enterWriting s).mem = s.mem ∧ (enterWriting s).journal = s.journal ∧
    (enterWriting s).dirty = s.dirty ∧ (enterWriting s).copy = s.copy ∧ (enterWriting s).mirror = s.mirror ∧
    (enterWriting s).link = s.link ∧ (enterWriting s).tx = s.tx ∧ (enterWriting s).rx = s.rx ∧
    (enterWriting s).reports = s.reports ∧ (enterWriting s).choices = s.choices ∧ (enterWriting s).pending = s.pending :=
  ⟨rfl, rfl, rfl, rfl, rfl, rfl, rfl, rfl, rfl, rfl, rfl, rfl, rfl, rfl, rfl, rfl, rfl, rfl, rfl, rfl, rfl, rfl, rfl, rfl⟩

/-- What `applyFrame` leaves unchanged. -/
@[simp] theorem applyFrame_keeps (f : Frame) (s : State) :
    (applyFrame f s).role = s.role ∧ (applyFrame f s).porst = s.porst ∧ (applyFrame f s).srst = s.srst ∧
    (applyFrame f s).markPin = s.markPin ∧ (applyFrame f s).drainPin = s.drainPin ∧ (applyFrame f s).sp = s.sp ∧
    (applyFrame f s).control = s.control ∧ (applyFrame f s).cfg = s.cfg ∧ (applyFrame f s).causes = s.causes ∧
    (applyFrame f s).enables = s.enables ∧ (applyFrame f s).regions = s.regions ∧ (applyFrame f s).sys = s.sys ∧
    (applyFrame f s).journal = s.journal ∧ (applyFrame f s).dirty = s.dirty ∧ (applyFrame f s).copy = s.copy ∧
    (applyFrame f s).mirror = s.mirror ∧ (applyFrame f s).link = s.link ∧ (applyFrame f s).reports = s.reports ∧
    (applyFrame f s).choices = s.choices ∧ (applyFrame f s).pending = s.pending := by
  unfold applyFrame
  (try dsimp only)
  (repeat' split) <;> simp

/-- What `takeGap` leaves unchanged. -/
@[simp] theorem takeGap_keeps (s : State) :
    (takeGap s).role = s.role ∧ (takeGap s).porst = s.porst ∧ (takeGap s).srst = s.srst ∧
    (takeGap s).markPin = s.markPin ∧ (takeGap s).drainPin = s.drainPin ∧ (takeGap s).sp = s.sp ∧
    (takeGap s).control = s.control ∧ (takeGap s).cfg = s.cfg ∧ (takeGap s).causes = s.causes ∧
    (takeGap s).enables = s.enables ∧ (takeGap s).counters = s.counters ∧ (takeGap s).regions = s.regions ∧
    (takeGap s).sys = s.sys ∧ (takeGap s).mem = s.mem ∧ (takeGap s).journal = s.journal ∧
    (takeGap s).dirty = s.dirty ∧ (takeGap s).copy = s.copy ∧ (takeGap s).mirror = s.mirror ∧
    (takeGap s).link = s.link ∧ (takeGap s).reports = s.reports ∧ (takeGap s).choices = s.choices ∧
    (takeGap s).pending = s.pending := by
  unfold takeGap
  (try dsimp only)
  (repeat' split) <;> simp

/-- What `judgeFrame` leaves unchanged. -/
@[simp] theorem judgeFrame_keeps (f : Frame) (s : State) :
    (judgeFrame f s).role = s.role ∧ (judgeFrame f s).porst = s.porst ∧ (judgeFrame f s).srst = s.srst ∧
    (judgeFrame f s).markPin = s.markPin ∧ (judgeFrame f s).drainPin = s.drainPin ∧ (judgeFrame f s).sp = s.sp ∧
    (judgeFrame f s).control = s.control ∧ (judgeFrame f s).cfg = s.cfg ∧ (judgeFrame f s).causes = s.causes ∧
    (judgeFrame f s).enables = s.enables ∧ (judgeFrame f s).regions = s.regions ∧ (judgeFrame f s).sys = s.sys ∧
    (judgeFrame f s).journal = s.journal ∧ (judgeFrame f s).dirty = s.dirty ∧ (judgeFrame f s).copy = s.copy ∧
    (judgeFrame f s).mirror = s.mirror ∧ (judgeFrame f s).link = s.link ∧ (judgeFrame f s).reports = s.reports ∧
    (judgeFrame f s).choices = s.choices ∧ (judgeFrame f s).pending = s.pending := by
  unfold judgeFrame
  (try dsimp only)
  (repeat' split) <;> simp

/-- What `applyFault` leaves unchanged. -/
@[simp] theorem applyFault_keeps (s : State) :
    (applyFault s).role = s.role ∧ (applyFault s).porst = s.porst ∧ (applyFault s).srst = s.srst ∧
    (applyFault s).markPin = s.markPin ∧ (applyFault s).drainPin = s.drainPin ∧ (applyFault s).sp = s.sp ∧
    (applyFault s).control = s.control ∧ (applyFault s).cfg = s.cfg ∧ (applyFault s).causes = s.causes ∧
    (applyFault s).enables = s.enables ∧ (applyFault s).regions = s.regions ∧ (applyFault s).sys = s.sys ∧
    (applyFault s).mem = s.mem ∧ (applyFault s).journal = s.journal ∧ (applyFault s).dirty = s.dirty ∧
    (applyFault s).copy = s.copy ∧ (applyFault s).mirror = s.mirror ∧ (applyFault s).link = s.link ∧
    (applyFault s).tx = s.tx ∧ (applyFault s).rx = s.rx ∧ (applyFault s).reports = s.reports ∧
    (applyFault s).choices = s.choices ∧ (applyFault s).pending = s.pending :=
  ⟨rfl, rfl, rfl, rfl, rfl, rfl, rfl, rfl, rfl, rfl, rfl, rfl, rfl, rfl, rfl, rfl, rfl, rfl, rfl, rfl, rfl, rfl, rfl⟩

/-- What `advanceApply` leaves unchanged. -/
@[simp] theorem advanceApply_keeps (s : State) :
    (advanceApply s).role = s.role ∧ (advanceApply s).porst = s.porst ∧ (advanceApply s).srst = s.srst ∧
    (advanceApply s).markPin = s.markPin ∧ (advanceApply s).drainPin = s.drainPin ∧ (advanceApply s).sp = s.sp ∧
    (advanceApply s).control = s.control ∧ (advanceApply s).cfg = s.cfg ∧ (advanceApply s).causes = s.causes ∧
    (advanceApply s).enables = s.enables ∧ (advanceApply s).counters = s.counters ∧ (advanceApply s).regions = s.regions ∧
    (advanceApply s).sys = s.sys ∧ (advanceApply s).journal = s.journal ∧ (advanceApply s).dirty = s.dirty ∧
    (advanceApply s).copy = s.copy ∧ (advanceApply s).mirror = s.mirror ∧ (advanceApply s).link = s.link ∧
    (advanceApply s).reports = s.reports ∧ (advanceApply s).choices = s.choices ∧ (advanceApply s).pending = s.pending := by
  unfold advanceApply
  (try dsimp only)
  (repeat' split) <;> simp

/-- What `applyAnswer` leaves unchanged. -/
@[simp] theorem applyAnswer_keeps (answer : MemAnswer) (s : State) :
    (applyAnswer answer s).role = s.role ∧ (applyAnswer answer s).porst = s.porst ∧ (applyAnswer answer s).srst = s.srst ∧
    (applyAnswer answer s).markPin = s.markPin ∧ (applyAnswer answer s).drainPin = s.drainPin ∧ (applyAnswer answer s).sp = s.sp ∧
    (applyAnswer answer s).control = s.control ∧ (applyAnswer answer s).cfg = s.cfg ∧ (applyAnswer answer s).causes = s.causes ∧
    (applyAnswer answer s).enables = s.enables ∧ (applyAnswer answer s).regions = s.regions ∧ (applyAnswer answer s).sys = s.sys ∧
    (applyAnswer answer s).journal = s.journal ∧ (applyAnswer answer s).dirty = s.dirty ∧ (applyAnswer answer s).copy = s.copy ∧
    (applyAnswer answer s).mirror = s.mirror ∧ (applyAnswer answer s).link = s.link ∧ (applyAnswer answer s).reports = s.reports ∧
    (applyAnswer answer s).choices = s.choices ∧ (applyAnswer answer s).pending = s.pending := by
  unfold applyAnswer
  (try dsimp only)
  (repeat' split) <;> simp

/-- What `abandonFrame` leaves unchanged. -/
@[simp] theorem abandonFrame_keeps (s : State) :
    (abandonFrame s).role = s.role ∧ (abandonFrame s).porst = s.porst ∧ (abandonFrame s).srst = s.srst ∧
    (abandonFrame s).markPin = s.markPin ∧ (abandonFrame s).drainPin = s.drainPin ∧ (abandonFrame s).sp = s.sp ∧
    (abandonFrame s).control = s.control ∧ (abandonFrame s).cfg = s.cfg ∧ (abandonFrame s).causes = s.causes ∧
    (abandonFrame s).enables = s.enables ∧ (abandonFrame s).counters = s.counters ∧ (abandonFrame s).regions = s.regions ∧
    (abandonFrame s).sys = s.sys ∧ (abandonFrame s).journal = s.journal ∧ (abandonFrame s).dirty = s.dirty ∧
    (abandonFrame s).copy = s.copy ∧ (abandonFrame s).mirror = s.mirror ∧ (abandonFrame s).link = s.link ∧
    (abandonFrame s).tx = s.tx ∧ (abandonFrame s).reports = s.reports ∧ (abandonFrame s).choices = s.choices ∧
    (abandonFrame s).pending = s.pending := by
  unfold abandonFrame
  (try dsimp only)
  (repeat' split) <;> simp

/-- What `replicaLeftUp` leaves unchanged. -/
@[simp] theorem replicaLeftUp_keeps (s : State) :
    (replicaLeftUp s).role = s.role ∧ (replicaLeftUp s).porst = s.porst ∧ (replicaLeftUp s).srst = s.srst ∧
    (replicaLeftUp s).markPin = s.markPin ∧ (replicaLeftUp s).drainPin = s.drainPin ∧ (replicaLeftUp s).sp = s.sp ∧
    (replicaLeftUp s).control = s.control ∧ (replicaLeftUp s).cfg = s.cfg ∧ (replicaLeftUp s).causes = s.causes ∧
    (replicaLeftUp s).enables = s.enables ∧ (replicaLeftUp s).counters = s.counters ∧ (replicaLeftUp s).regions = s.regions ∧
    (replicaLeftUp s).sys = s.sys ∧ (replicaLeftUp s).journal = s.journal ∧ (replicaLeftUp s).dirty = s.dirty ∧
    (replicaLeftUp s).copy = s.copy ∧ (replicaLeftUp s).link = s.link ∧ (replicaLeftUp s).tx = s.tx ∧
    (replicaLeftUp s).reports = s.reports ∧ (replicaLeftUp s).choices = s.choices ∧ (replicaLeftUp s).pending = s.pending := by
  unfold replicaLeftUp
  (try dsimp only)
  (repeat' split) <;> simp

/-- What `replicaReachedUp` leaves unchanged. -/
@[simp] theorem replicaReachedUp_keeps (s : State) :
    (replicaReachedUp s).role = s.role ∧ (replicaReachedUp s).porst = s.porst ∧ (replicaReachedUp s).srst = s.srst ∧
    (replicaReachedUp s).markPin = s.markPin ∧ (replicaReachedUp s).drainPin = s.drainPin ∧ (replicaReachedUp s).sp = s.sp ∧
    (replicaReachedUp s).control = s.control ∧ (replicaReachedUp s).cfg = s.cfg ∧ (replicaReachedUp s).causes = s.causes ∧
    (replicaReachedUp s).enables = s.enables ∧ (replicaReachedUp s).counters = s.counters ∧ (replicaReachedUp s).regions = s.regions ∧
    (replicaReachedUp s).sys = s.sys ∧ (replicaReachedUp s).mem = s.mem ∧ (replicaReachedUp s).journal = s.journal ∧
    (replicaReachedUp s).dirty = s.dirty ∧ (replicaReachedUp s).copy = s.copy ∧ (replicaReachedUp s).link = s.link ∧
    (replicaReachedUp s).tx = s.tx ∧ (replicaReachedUp s).rx = s.rx ∧ (replicaReachedUp s).apply = s.apply ∧
    (replicaReachedUp s).reports = s.reports ∧ (replicaReachedUp s).choices = s.choices ∧ (replicaReachedUp s).pending = s.pending := by
  unfold replicaReachedUp
  (try dsimp only)
  (repeat' split) <;> simp

/-- What `resetAckState` leaves unchanged. -/
@[simp] theorem resetAckState_keeps (s : State) :
    (resetAckState s).role = s.role ∧ (resetAckState s).porst = s.porst ∧ (resetAckState s).srst = s.srst ∧
    (resetAckState s).markPin = s.markPin ∧ (resetAckState s).drainPin = s.drainPin ∧ (resetAckState s).sp = s.sp ∧
    (resetAckState s).control = s.control ∧ (resetAckState s).cfg = s.cfg ∧ (resetAckState s).causes = s.causes ∧
    (resetAckState s).enables = s.enables ∧ (resetAckState s).counters = s.counters ∧ (resetAckState s).regions = s.regions ∧
    (resetAckState s).sys = s.sys ∧ (resetAckState s).mem = s.mem ∧ (resetAckState s).journal = s.journal ∧
    (resetAckState s).dirty = s.dirty ∧ (resetAckState s).copy = s.copy ∧ (resetAckState s).mirror = s.mirror ∧
    (resetAckState s).link = s.link ∧ (resetAckState s).tx = s.tx ∧ (resetAckState s).rx = s.rx ∧
    (resetAckState s).reports = s.reports ∧ (resetAckState s).choices = s.choices ∧ (resetAckState s).pending = s.pending :=
  ⟨rfl, rfl, rfl, rfl, rfl, rfl, rfl, rfl, rfl, rfl, rfl, rfl, rfl, rfl, rfl, rfl, rfl, rfl, rfl, rfl, rfl, rfl, rfl, rfl⟩

/-! ### Session -/

/-- What `offerHello` leaves unchanged. -/
@[simp] theorem offerHello_keeps (s : State) :
    (offerHello s).role = s.role ∧ (offerHello s).porst = s.porst ∧ (offerHello s).srst = s.srst ∧
    (offerHello s).markPin = s.markPin ∧ (offerHello s).drainPin = s.drainPin ∧ (offerHello s).sp = s.sp ∧
    (offerHello s).control = s.control ∧ (offerHello s).cfg = s.cfg ∧ (offerHello s).causes = s.causes ∧
    (offerHello s).enables = s.enables ∧ (offerHello s).counters = s.counters ∧ (offerHello s).regions = s.regions ∧
    (offerHello s).sys = s.sys ∧ (offerHello s).mem = s.mem ∧ (offerHello s).journal = s.journal ∧
    (offerHello s).dirty = s.dirty ∧ (offerHello s).copy = s.copy ∧ (offerHello s).mirror = s.mirror ∧
    (offerHello s).link = s.link ∧ (offerHello s).rx = s.rx ∧ (offerHello s).apply = s.apply ∧
    (offerHello s).reports = s.reports ∧ (offerHello s).choices = s.choices ∧ (offerHello s).pending = s.pending := by
  unfold offerHello
  (try dsimp only)
  (repeat' split) <;> simp

/-- What `enterConnecting` leaves unchanged. -/
@[simp] theorem enterConnecting_keeps (s : State) :
    (enterConnecting s).role = s.role ∧ (enterConnecting s).porst = s.porst ∧ (enterConnecting s).srst = s.srst ∧
    (enterConnecting s).markPin = s.markPin ∧ (enterConnecting s).drainPin = s.drainPin ∧ (enterConnecting s).sp = s.sp ∧
    (enterConnecting s).control = s.control ∧ (enterConnecting s).cfg = s.cfg ∧ (enterConnecting s).causes = s.causes ∧
    (enterConnecting s).enables = s.enables ∧ (enterConnecting s).counters = s.counters ∧ (enterConnecting s).regions = s.regions ∧
    (enterConnecting s).sys = s.sys ∧ (enterConnecting s).mem = s.mem ∧ (enterConnecting s).journal = s.journal ∧
    (enterConnecting s).dirty = s.dirty ∧ (enterConnecting s).copy = s.copy ∧ (enterConnecting s).mirror = s.mirror ∧
    (enterConnecting s).rx = s.rx ∧ (enterConnecting s).apply = s.apply ∧ (enterConnecting s).reports = s.reports ∧
    (enterConnecting s).choices = s.choices ∧ (enterConnecting s).pending = s.pending := by
  unfold enterConnecting
  (try dsimp only)
  (repeat' split) <;> simp

/-- What `enterDown` leaves unchanged. -/
@[simp] theorem enterDown_keeps (s : State) :
    (enterDown s).role = s.role ∧ (enterDown s).porst = s.porst ∧ (enterDown s).srst = s.srst ∧
    (enterDown s).markPin = s.markPin ∧ (enterDown s).drainPin = s.drainPin ∧ (enterDown s).sp = s.sp ∧
    (enterDown s).control = s.control ∧ (enterDown s).cfg = s.cfg ∧ (enterDown s).causes = s.causes ∧
    (enterDown s).enables = s.enables ∧ (enterDown s).counters = s.counters ∧ (enterDown s).regions = s.regions ∧
    (enterDown s).sys = s.sys ∧ (enterDown s).mem = s.mem ∧ (enterDown s).journal = s.journal ∧
    (enterDown s).dirty = s.dirty ∧ (enterDown s).copy = s.copy ∧ (enterDown s).mirror = s.mirror ∧
    (enterDown s).tx = s.tx ∧ (enterDown s).rx = s.rx ∧ (enterDown s).apply = s.apply ∧
    (enterDown s).reports = s.reports ∧ (enterDown s).choices = s.choices ∧ (enterDown s).pending = s.pending := by
  unfold enterDown
  (try dsimp only)
  (repeat' split) <;> simp

/-- What `countLinkDown` leaves unchanged. -/
@[simp] theorem countLinkDown_keeps (s : State) :
    (countLinkDown s).role = s.role ∧ (countLinkDown s).porst = s.porst ∧ (countLinkDown s).srst = s.srst ∧
    (countLinkDown s).markPin = s.markPin ∧ (countLinkDown s).drainPin = s.drainPin ∧ (countLinkDown s).sp = s.sp ∧
    (countLinkDown s).control = s.control ∧ (countLinkDown s).cfg = s.cfg ∧ (countLinkDown s).enables = s.enables ∧
    (countLinkDown s).regions = s.regions ∧ (countLinkDown s).sys = s.sys ∧ (countLinkDown s).mem = s.mem ∧
    (countLinkDown s).journal = s.journal ∧ (countLinkDown s).dirty = s.dirty ∧ (countLinkDown s).copy = s.copy ∧
    (countLinkDown s).mirror = s.mirror ∧ (countLinkDown s).link = s.link ∧ (countLinkDown s).tx = s.tx ∧
    (countLinkDown s).rx = s.rx ∧ (countLinkDown s).apply = s.apply ∧ (countLinkDown s).reports = s.reports ∧
    (countLinkDown s).choices = s.choices ∧ (countLinkDown s).pending = s.pending :=
  ⟨rfl, rfl, rfl, rfl, rfl, rfl, rfl, rfl, rfl, rfl, rfl, rfl, rfl, rfl, rfl, rfl, rfl, rfl, rfl, rfl, rfl, rfl, rfl⟩

/-- What `stopSession` leaves unchanged. -/
@[simp] theorem stopSession_keeps (s : State) :
    (stopSession s).role = s.role ∧ (stopSession s).porst = s.porst ∧ (stopSession s).srst = s.srst ∧
    (stopSession s).markPin = s.markPin ∧ (stopSession s).drainPin = s.drainPin ∧ (stopSession s).sp = s.sp ∧
    (stopSession s).control = s.control ∧ (stopSession s).cfg = s.cfg ∧ (stopSession s).causes = s.causes ∧
    (stopSession s).enables = s.enables ∧ (stopSession s).counters = s.counters ∧ (stopSession s).regions = s.regions ∧
    (stopSession s).sys = s.sys ∧ (stopSession s).mem = s.mem ∧ (stopSession s).journal = s.journal ∧
    (stopSession s).dirty = s.dirty ∧ (stopSession s).copy = s.copy ∧ (stopSession s).mirror = s.mirror ∧
    (stopSession s).tx = s.tx ∧ (stopSession s).rx = s.rx ∧ (stopSession s).apply = s.apply ∧
    (stopSession s).reports = s.reports ∧ (stopSession s).choices = s.choices ∧ (stopSession s).pending = s.pending :=
  ⟨rfl, rfl, rfl, rfl, rfl, rfl, rfl, rfl, rfl, rfl, rfl, rfl, rfl, rfl, rfl, rfl, rfl, rfl, rfl, rfl, rfl, rfl, rfl, rfl⟩

/-- What `clearReplicaSession` leaves unchanged. -/
@[simp] theorem clearReplicaSession_keeps (s : State) :
    (clearReplicaSession s).role = s.role ∧ (clearReplicaSession s).porst = s.porst ∧ (clearReplicaSession s).srst = s.srst ∧
    (clearReplicaSession s).markPin = s.markPin ∧ (clearReplicaSession s).drainPin = s.drainPin ∧ (clearReplicaSession s).sp = s.sp ∧
    (clearReplicaSession s).control = s.control ∧ (clearReplicaSession s).cfg = s.cfg ∧ (clearReplicaSession s).causes = s.causes ∧
    (clearReplicaSession s).enables = s.enables ∧ (clearReplicaSession s).counters = s.counters ∧ (clearReplicaSession s).regions = s.regions ∧
    (clearReplicaSession s).sys = s.sys ∧ (clearReplicaSession s).mem = s.mem ∧ (clearReplicaSession s).journal = s.journal ∧
    (clearReplicaSession s).dirty = s.dirty ∧ (clearReplicaSession s).copy = s.copy ∧ (clearReplicaSession s).mirror = s.mirror ∧
    (clearReplicaSession s).tx = s.tx ∧ (clearReplicaSession s).rx = s.rx ∧ (clearReplicaSession s).apply = s.apply ∧
    (clearReplicaSession s).reports = s.reports ∧ (clearReplicaSession s).choices = s.choices ∧ (clearReplicaSession s).pending = s.pending := by
  unfold clearReplicaSession
  (try dsimp only)
  (repeat' split) <;> simp

/-- What `enterOff` leaves unchanged. -/
@[simp] theorem enterOff_keeps (s : State) :
    (enterOff s).role = s.role ∧ (enterOff s).porst = s.porst ∧ (enterOff s).srst = s.srst ∧
    (enterOff s).markPin = s.markPin ∧ (enterOff s).drainPin = s.drainPin ∧ (enterOff s).sp = s.sp ∧
    (enterOff s).control = s.control ∧ (enterOff s).cfg = s.cfg ∧ (enterOff s).causes = s.causes ∧
    (enterOff s).enables = s.enables ∧ (enterOff s).counters = s.counters ∧ (enterOff s).regions = s.regions ∧
    (enterOff s).sys = s.sys ∧ (enterOff s).mem = s.mem ∧ (enterOff s).journal = s.journal ∧
    (enterOff s).dirty = s.dirty ∧ (enterOff s).copy = s.copy ∧ (enterOff s).mirror = s.mirror ∧
    (enterOff s).apply = s.apply ∧ (enterOff s).reports = s.reports ∧ (enterOff s).choices = s.choices ∧
    (enterOff s).pending = s.pending := by
  unfold enterOff
  (try dsimp only)
  (repeat' split) <;> simp

/-- What `enterAfterUp` leaves unchanged. -/
@[simp] theorem enterAfterUp_keeps (dest : LeaveTo) (s : State) :
    (enterAfterUp dest s).role = s.role ∧ (enterAfterUp dest s).porst = s.porst ∧ (enterAfterUp dest s).srst = s.srst ∧
    (enterAfterUp dest s).markPin = s.markPin ∧ (enterAfterUp dest s).drainPin = s.drainPin ∧ (enterAfterUp dest s).sp = s.sp ∧
    (enterAfterUp dest s).control = s.control ∧ (enterAfterUp dest s).cfg = s.cfg ∧ (enterAfterUp dest s).causes = s.causes ∧
    (enterAfterUp dest s).enables = s.enables ∧ (enterAfterUp dest s).counters = s.counters ∧ (enterAfterUp dest s).regions = s.regions ∧
    (enterAfterUp dest s).sys = s.sys ∧ (enterAfterUp dest s).mem = s.mem ∧ (enterAfterUp dest s).journal = s.journal ∧
    (enterAfterUp dest s).dirty = s.dirty ∧ (enterAfterUp dest s).copy = s.copy ∧ (enterAfterUp dest s).mirror = s.mirror ∧
    (enterAfterUp dest s).apply = s.apply ∧ (enterAfterUp dest s).reports = s.reports ∧ (enterAfterUp dest s).choices = s.choices ∧
    (enterAfterUp dest s).pending = s.pending := by
  unfold enterAfterUp
  (try dsimp only)
  (repeat' split) <;> simp

/-- What `reportLeftUp` leaves unchanged. -/
@[simp] theorem reportLeftUp_keeps (s : State) :
    (reportLeftUp s).role = s.role ∧ (reportLeftUp s).porst = s.porst ∧ (reportLeftUp s).srst = s.srst ∧
    (reportLeftUp s).markPin = s.markPin ∧ (reportLeftUp s).drainPin = s.drainPin ∧ (reportLeftUp s).sp = s.sp ∧
    (reportLeftUp s).control = s.control ∧ (reportLeftUp s).cfg = s.cfg ∧ (reportLeftUp s).enables = s.enables ∧
    (reportLeftUp s).counters = s.counters ∧ (reportLeftUp s).regions = s.regions ∧ (reportLeftUp s).link = s.link ∧
    (reportLeftUp s).reports = s.reports ∧ (reportLeftUp s).choices = s.choices ∧ (reportLeftUp s).pending = s.pending := by
  unfold reportLeftUp
  (try dsimp only)
  (repeat' split) <;> simp

/-- What `transmitterLeavesUp` leaves unchanged. -/
@[simp] theorem transmitterLeavesUp_keeps (withBreak : Bool) (s : State) :
    (transmitterLeavesUp withBreak s).role = s.role ∧ (transmitterLeavesUp withBreak s).porst = s.porst ∧ (transmitterLeavesUp withBreak s).srst = s.srst ∧
    (transmitterLeavesUp withBreak s).markPin = s.markPin ∧ (transmitterLeavesUp withBreak s).drainPin = s.drainPin ∧ (transmitterLeavesUp withBreak s).sp = s.sp ∧
    (transmitterLeavesUp withBreak s).control = s.control ∧ (transmitterLeavesUp withBreak s).cfg = s.cfg ∧ (transmitterLeavesUp withBreak s).causes = s.causes ∧
    (transmitterLeavesUp withBreak s).enables = s.enables ∧ (transmitterLeavesUp withBreak s).counters = s.counters ∧ (transmitterLeavesUp withBreak s).regions = s.regions ∧
    (transmitterLeavesUp withBreak s).sys = s.sys ∧ (transmitterLeavesUp withBreak s).mem = s.mem ∧ (transmitterLeavesUp withBreak s).journal = s.journal ∧
    (transmitterLeavesUp withBreak s).dirty = s.dirty ∧ (transmitterLeavesUp withBreak s).copy = s.copy ∧ (transmitterLeavesUp withBreak s).mirror = s.mirror ∧
    (transmitterLeavesUp withBreak s).link = s.link ∧ (transmitterLeavesUp withBreak s).rx = s.rx ∧ (transmitterLeavesUp withBreak s).apply = s.apply ∧
    (transmitterLeavesUp withBreak s).reports = s.reports ∧ (transmitterLeavesUp withBreak s).choices = s.choices ∧ (transmitterLeavesUp withBreak s).pending = s.pending := by
  unfold transmitterLeavesUp
  (try dsimp only)
  (repeat' split) <;> simp

/-- What `leaveUp` leaves unchanged. -/
@[simp] theorem leaveUp_keeps (dest : LeaveTo) (withBreak counted : Bool) (s : State) :
    (leaveUp dest withBreak counted s).role = s.role ∧ (leaveUp dest withBreak counted s).porst = s.porst ∧ (leaveUp dest withBreak counted s).srst = s.srst ∧
    (leaveUp dest withBreak counted s).markPin = s.markPin ∧ (leaveUp dest withBreak counted s).drainPin = s.drainPin ∧ (leaveUp dest withBreak counted s).sp = s.sp ∧
    (leaveUp dest withBreak counted s).control = s.control ∧ (leaveUp dest withBreak counted s).cfg = s.cfg ∧ (leaveUp dest withBreak counted s).enables = s.enables ∧
    (leaveUp dest withBreak counted s).regions = s.regions ∧ (leaveUp dest withBreak counted s).reports = s.reports ∧ (leaveUp dest withBreak counted s).choices = s.choices ∧
    (leaveUp dest withBreak counted s).pending = s.pending := by
  unfold leaveUp
  (try dsimp only)
  (repeat' split) <;> simp

/-- What `originEnterUp` leaves unchanged. -/
@[simp] theorem originEnterUp_keeps (fresh : Bool) (s : State) :
    (originEnterUp fresh s).role = s.role ∧ (originEnterUp fresh s).porst = s.porst ∧ (originEnterUp fresh s).srst = s.srst ∧
    (originEnterUp fresh s).markPin = s.markPin ∧ (originEnterUp fresh s).drainPin = s.drainPin ∧ (originEnterUp fresh s).sp = s.sp ∧
    (originEnterUp fresh s).control = s.control ∧ (originEnterUp fresh s).cfg = s.cfg ∧ (originEnterUp fresh s).enables = s.enables ∧
    (originEnterUp fresh s).counters = s.counters ∧ (originEnterUp fresh s).regions = s.regions ∧ (originEnterUp fresh s).sys = s.sys ∧
    (originEnterUp fresh s).mem = s.mem ∧ (originEnterUp fresh s).journal = s.journal ∧ (originEnterUp fresh s).rx = s.rx ∧
    (originEnterUp fresh s).apply = s.apply ∧ (originEnterUp fresh s).reports = s.reports ∧ (originEnterUp fresh s).choices = s.choices ∧
    (originEnterUp fresh s).pending = s.pending := by
  unfold originEnterUp
  (try dsimp only)
  (repeat' split) <;> simp

/-- What `noteValidFrame` leaves unchanged. -/
@[simp] theorem noteValidFrame_keeps (session : SessionNo) (s : State) :
    (noteValidFrame session s).role = s.role ∧ (noteValidFrame session s).porst = s.porst ∧ (noteValidFrame session s).srst = s.srst ∧
    (noteValidFrame session s).markPin = s.markPin ∧ (noteValidFrame session s).drainPin = s.drainPin ∧ (noteValidFrame session s).sp = s.sp ∧
    (noteValidFrame session s).control = s.control ∧ (noteValidFrame session s).cfg = s.cfg ∧ (noteValidFrame session s).causes = s.causes ∧
    (noteValidFrame session s).enables = s.enables ∧ (noteValidFrame session s).counters = s.counters ∧ (noteValidFrame session s).regions = s.regions ∧
    (noteValidFrame session s).sys = s.sys ∧ (noteValidFrame session s).mem = s.mem ∧ (noteValidFrame session s).journal = s.journal ∧
    (noteValidFrame session s).dirty = s.dirty ∧ (noteValidFrame session s).copy = s.copy ∧ (noteValidFrame session s).mirror = s.mirror ∧
    (noteValidFrame session s).tx = s.tx ∧ (noteValidFrame session s).rx = s.rx ∧ (noteValidFrame session s).apply = s.apply ∧
    (noteValidFrame session s).reports = s.reports ∧ (noteValidFrame session s).choices = s.choices ∧ (noteValidFrame session s).pending = s.pending := by
  unfold noteValidFrame
  (try dsimp only)
  (repeat' split) <;> simp

/-- What `reportAcknowledged` leaves unchanged. -/
@[simp] theorem reportAcknowledged_keeps (removed : List Entry) (s : State) :
    (reportAcknowledged removed s).role = s.role ∧ (reportAcknowledged removed s).porst = s.porst ∧ (reportAcknowledged removed s).srst = s.srst ∧
    (reportAcknowledged removed s).markPin = s.markPin ∧ (reportAcknowledged removed s).drainPin = s.drainPin ∧ (reportAcknowledged removed s).sp = s.sp ∧
    (reportAcknowledged removed s).control = s.control ∧ (reportAcknowledged removed s).cfg = s.cfg ∧ (reportAcknowledged removed s).causes = s.causes ∧
    (reportAcknowledged removed s).enables = s.enables ∧ (reportAcknowledged removed s).counters = s.counters ∧ (reportAcknowledged removed s).regions = s.regions ∧
    (reportAcknowledged removed s).sys = s.sys ∧ (reportAcknowledged removed s).mem = s.mem ∧ (reportAcknowledged removed s).journal = s.journal ∧
    (reportAcknowledged removed s).dirty = s.dirty ∧ (reportAcknowledged removed s).mirror = s.mirror ∧ (reportAcknowledged removed s).tx = s.tx ∧
    (reportAcknowledged removed s).rx = s.rx ∧ (reportAcknowledged removed s).apply = s.apply ∧ (reportAcknowledged removed s).choices = s.choices ∧
    (reportAcknowledged removed s).pending = s.pending :=
  ⟨rfl, rfl, rfl, rfl, rfl, rfl, rfl, rfl, rfl, rfl, rfl, rfl, rfl, rfl, rfl, rfl, rfl, rfl, rfl, rfl, rfl, rfl⟩

/-- What `acknowledgeThrough` leaves unchanged. -/
@[simp] theorem acknowledgeThrough_keeps (n : Seq) (s : State) :
    (acknowledgeThrough n s).role = s.role ∧ (acknowledgeThrough n s).porst = s.porst ∧ (acknowledgeThrough n s).srst = s.srst ∧
    (acknowledgeThrough n s).markPin = s.markPin ∧ (acknowledgeThrough n s).drainPin = s.drainPin ∧ (acknowledgeThrough n s).sp = s.sp ∧
    (acknowledgeThrough n s).control = s.control ∧ (acknowledgeThrough n s).cfg = s.cfg ∧ (acknowledgeThrough n s).causes = s.causes ∧
    (acknowledgeThrough n s).enables = s.enables ∧ (acknowledgeThrough n s).counters = s.counters ∧ (acknowledgeThrough n s).regions = s.regions ∧
    (acknowledgeThrough n s).sys = s.sys ∧ (acknowledgeThrough n s).mem = s.mem ∧ (acknowledgeThrough n s).dirty = s.dirty ∧
    (acknowledgeThrough n s).mirror = s.mirror ∧ (acknowledgeThrough n s).tx = s.tx ∧ (acknowledgeThrough n s).rx = s.rx ∧
    (acknowledgeThrough n s).apply = s.apply ∧ (acknowledgeThrough n s).choices = s.choices ∧ (acknowledgeThrough n s).pending = s.pending := by
  unfold acknowledgeThrough
  (try dsimp only)
  (repeat' split) <;> simp

/-- What `rewindTo` leaves unchanged. -/
@[simp] theorem rewindTo_keeps (target : Seq) (s : State) :
    (rewindTo target s).role = s.role ∧ (rewindTo target s).porst = s.porst ∧ (rewindTo target s).srst = s.srst ∧
    (rewindTo target s).markPin = s.markPin ∧ (rewindTo target s).drainPin = s.drainPin ∧ (rewindTo target s).sp = s.sp ∧
    (rewindTo target s).control = s.control ∧ (rewindTo target s).cfg = s.cfg ∧ (rewindTo target s).causes = s.causes ∧
    (rewindTo target s).enables = s.enables ∧ (rewindTo target s).counters = s.counters ∧ (rewindTo target s).regions = s.regions ∧
    (rewindTo target s).sys = s.sys ∧ (rewindTo target s).mem = s.mem ∧ (rewindTo target s).dirty = s.dirty ∧
    (rewindTo target s).copy = s.copy ∧ (rewindTo target s).mirror = s.mirror ∧ (rewindTo target s).rx = s.rx ∧
    (rewindTo target s).apply = s.apply ∧ (rewindTo target s).reports = s.reports ∧ (rewindTo target s).choices = s.choices ∧
    (rewindTo target s).pending = s.pending := by
  unfold rewindTo
  (try dsimp only)
  (repeat' split) <;> simp

/-- What `reportReplicaFault` leaves unchanged. -/
@[simp] theorem reportReplicaFault_keeps (fault : Bool) (s : State) :
    (reportReplicaFault fault s).role = s.role ∧ (reportReplicaFault fault s).porst = s.porst ∧ (reportReplicaFault fault s).srst = s.srst ∧
    (reportReplicaFault fault s).markPin = s.markPin ∧ (reportReplicaFault fault s).drainPin = s.drainPin ∧ (reportReplicaFault fault s).sp = s.sp ∧
    (reportReplicaFault fault s).control = s.control ∧ (reportReplicaFault fault s).cfg = s.cfg ∧ (reportReplicaFault fault s).enables = s.enables ∧
    (reportReplicaFault fault s).counters = s.counters ∧ (reportReplicaFault fault s).regions = s.regions ∧ (reportReplicaFault fault s).sys = s.sys ∧
    (reportReplicaFault fault s).mem = s.mem ∧ (reportReplicaFault fault s).journal = s.journal ∧ (reportReplicaFault fault s).dirty = s.dirty ∧
    (reportReplicaFault fault s).copy = s.copy ∧ (reportReplicaFault fault s).link = s.link ∧ (reportReplicaFault fault s).tx = s.tx ∧
    (reportReplicaFault fault s).rx = s.rx ∧ (reportReplicaFault fault s).apply = s.apply ∧ (reportReplicaFault fault s).reports = s.reports ∧
    (reportReplicaFault fault s).choices = s.choices ∧ (reportReplicaFault fault s).pending = s.pending := by
  unfold reportReplicaFault
  (try dsimp only)
  (repeat' split) <;> simp

/-- What `takeAck` leaves unchanged. -/
@[simp] theorem takeAck_keeps (f : Frame) (fault : Bool) (s : State) :
    (takeAck f fault s).role = s.role ∧ (takeAck f fault s).porst = s.porst ∧ (takeAck f fault s).srst = s.srst ∧
    (takeAck f fault s).markPin = s.markPin ∧ (takeAck f fault s).drainPin = s.drainPin ∧ (takeAck f fault s).sp = s.sp ∧
    (takeAck f fault s).control = s.control ∧ (takeAck f fault s).cfg = s.cfg ∧ (takeAck f fault s).enables = s.enables ∧
    (takeAck f fault s).regions = s.regions ∧ (takeAck f fault s).sys = s.sys ∧ (takeAck f fault s).mem = s.mem ∧
    (takeAck f fault s).dirty = s.dirty ∧ (takeAck f fault s).tx = s.tx ∧ (takeAck f fault s).rx = s.rx ∧
    (takeAck f fault s).apply = s.apply ∧ (takeAck f fault s).choices = s.choices ∧ (takeAck f fault s).pending = s.pending := by
  unfold takeAck
  (try dsimp only)
  (repeat' split) <;> simp

/-- What `takeNak` leaves unchanged. -/
@[simp] theorem takeNak_keeps (f : Frame) (fault : Bool) (s : State) :
    (takeNak f fault s).role = s.role ∧ (takeNak f fault s).porst = s.porst ∧ (takeNak f fault s).srst = s.srst ∧
    (takeNak f fault s).markPin = s.markPin ∧ (takeNak f fault s).drainPin = s.drainPin ∧ (takeNak f fault s).sp = s.sp ∧
    (takeNak f fault s).control = s.control ∧ (takeNak f fault s).cfg = s.cfg ∧ (takeNak f fault s).enables = s.enables ∧
    (takeNak f fault s).regions = s.regions ∧ (takeNak f fault s).sys = s.sys ∧ (takeNak f fault s).mem = s.mem ∧
    (takeNak f fault s).dirty = s.dirty ∧ (takeNak f fault s).rx = s.rx ∧ (takeNak f fault s).apply = s.apply ∧
    (takeNak f fault s).choices = s.choices ∧ (takeNak f fault s).pending = s.pending := by
  unfold takeNak
  (try dsimp only)
  (repeat' split) <;> simp

/-- What `takeHelloAck` leaves unchanged. -/
@[simp] theorem takeHelloAck_keeps (f : Frame) (fresh : Bool) (s : State) :
    (takeHelloAck f fresh s).role = s.role ∧ (takeHelloAck f fresh s).porst = s.porst ∧ (takeHelloAck f fresh s).srst = s.srst ∧
    (takeHelloAck f fresh s).markPin = s.markPin ∧ (takeHelloAck f fresh s).drainPin = s.drainPin ∧ (takeHelloAck f fresh s).sp = s.sp ∧
    (takeHelloAck f fresh s).control = s.control ∧ (takeHelloAck f fresh s).cfg = s.cfg ∧ (takeHelloAck f fresh s).enables = s.enables ∧
    (takeHelloAck f fresh s).regions = s.regions ∧ (takeHelloAck f fresh s).sys = s.sys ∧ (takeHelloAck f fresh s).mem = s.mem ∧
    (takeHelloAck f fresh s).journal = s.journal ∧ (takeHelloAck f fresh s).rx = s.rx ∧ (takeHelloAck f fresh s).apply = s.apply ∧
    (takeHelloAck f fresh s).reports = s.reports ∧ (takeHelloAck f fresh s).choices = s.choices ∧ (takeHelloAck f fresh s).pending = s.pending := by
  unfold takeHelloAck
  (try dsimp only)
  (repeat' split) <;> simp

/-- What `answerHello` leaves unchanged. -/
@[simp] theorem answerHello_keeps (f : Frame) (s : State) :
    (answerHello f s).role = s.role ∧ (answerHello f s).porst = s.porst ∧ (answerHello f s).srst = s.srst ∧
    (answerHello f s).markPin = s.markPin ∧ (answerHello f s).drainPin = s.drainPin ∧ (answerHello f s).sp = s.sp ∧
    (answerHello f s).control = s.control ∧ (answerHello f s).cfg = s.cfg ∧ (answerHello f s).enables = s.enables ∧
    (answerHello f s).counters = s.counters ∧ (answerHello f s).regions = s.regions ∧ (answerHello f s).sys = s.sys ∧
    (answerHello f s).journal = s.journal ∧ (answerHello f s).dirty = s.dirty ∧ (answerHello f s).copy = s.copy ∧
    (answerHello f s).reports = s.reports ∧ (answerHello f s).choices = s.choices ∧ (answerHello f s).pending = s.pending := by
  unfold answerHello
  (try dsimp only)
  (repeat' split) <;> simp

/-- What `unansweredSessionZero` leaves unchanged. -/
@[simp] theorem unansweredSessionZero_keeps (s : State) :
    (unansweredSessionZero s).role = s.role ∧ (unansweredSessionZero s).porst = s.porst ∧ (unansweredSessionZero s).srst = s.srst ∧
    (unansweredSessionZero s).markPin = s.markPin ∧ (unansweredSessionZero s).drainPin = s.drainPin ∧ (unansweredSessionZero s).sp = s.sp ∧
    (unansweredSessionZero s).control = s.control ∧ (unansweredSessionZero s).cfg = s.cfg ∧ (unansweredSessionZero s).causes = s.causes ∧
    (unansweredSessionZero s).enables = s.enables ∧ (unansweredSessionZero s).regions = s.regions ∧ (unansweredSessionZero s).sys = s.sys ∧
    (unansweredSessionZero s).mem = s.mem ∧ (unansweredSessionZero s).journal = s.journal ∧ (unansweredSessionZero s).dirty = s.dirty ∧
    (unansweredSessionZero s).copy = s.copy ∧ (unansweredSessionZero s).mirror = s.mirror ∧ (unansweredSessionZero s).link = s.link ∧
    (unansweredSessionZero s).tx = s.tx ∧ (unansweredSessionZero s).rx = s.rx ∧ (unansweredSessionZero s).apply = s.apply ∧
    (unansweredSessionZero s).reports = s.reports ∧ (unansweredSessionZero s).pending = s.pending := by
  unfold unansweredSessionZero
  (try dsimp only)
  (repeat' split) <;> simp

/-- What `takeHello` leaves unchanged. -/
@[simp] theorem takeHello_keeps (f : Frame) (s : State) :
    (takeHello f s).role = s.role ∧ (takeHello f s).porst = s.porst ∧ (takeHello f s).srst = s.srst ∧
    (takeHello f s).markPin = s.markPin ∧ (takeHello f s).drainPin = s.drainPin ∧ (takeHello f s).sp = s.sp ∧
    (takeHello f s).control = s.control ∧ (takeHello f s).cfg = s.cfg ∧ (takeHello f s).enables = s.enables ∧
    (takeHello f s).regions = s.regions ∧ (takeHello f s).sys = s.sys ∧ (takeHello f s).journal = s.journal ∧
    (takeHello f s).dirty = s.dirty ∧ (takeHello f s).copy = s.copy ∧ (takeHello f s).reports = s.reports ∧
    (takeHello f s).pending = s.pending := by
  unfold takeHello
  (try dsimp only)
  (repeat' split) <;> simp

/-- What `ackTimeoutStep` leaves unchanged. -/
@[simp] theorem ackTimeoutStep_keeps (s : State) :
    (ackTimeoutStep s).role = s.role ∧ (ackTimeoutStep s).porst = s.porst ∧ (ackTimeoutStep s).srst = s.srst ∧
    (ackTimeoutStep s).markPin = s.markPin ∧ (ackTimeoutStep s).drainPin = s.drainPin ∧ (ackTimeoutStep s).sp = s.sp ∧
    (ackTimeoutStep s).control = s.control ∧ (ackTimeoutStep s).cfg = s.cfg ∧ (ackTimeoutStep s).causes = s.causes ∧
    (ackTimeoutStep s).enables = s.enables ∧ (ackTimeoutStep s).regions = s.regions ∧ (ackTimeoutStep s).sys = s.sys ∧
    (ackTimeoutStep s).mem = s.mem ∧ (ackTimeoutStep s).dirty = s.dirty ∧ (ackTimeoutStep s).copy = s.copy ∧
    (ackTimeoutStep s).mirror = s.mirror ∧ (ackTimeoutStep s).rx = s.rx ∧ (ackTimeoutStep s).apply = s.apply ∧
    (ackTimeoutStep s).reports = s.reports ∧ (ackTimeoutStep s).choices = s.choices ∧ (ackTimeoutStep s).pending = s.pending := by
  unfold ackTimeoutStep
  (try dsimp only)
  (repeat' split) <;> simp

/-- What `renewSession` leaves unchanged. -/
@[simp] theorem renewSession_keeps (s : State) :
    (renewSession s).role = s.role ∧ (renewSession s).porst = s.porst ∧ (renewSession s).srst = s.srst ∧
    (renewSession s).markPin = s.markPin ∧ (renewSession s).drainPin = s.drainPin ∧ (renewSession s).sp = s.sp ∧
    (renewSession s).control = s.control ∧ (renewSession s).cfg = s.cfg ∧ (renewSession s).enables = s.enables ∧
    (renewSession s).regions = s.regions ∧ (renewSession s).reports = s.reports ∧ (renewSession s).choices = s.choices ∧
    (renewSession s).pending = s.pending := by
  unfold renewSession
  (try dsimp only)
  (repeat' split) <;> simp

/-- What `resetLink` leaves unchanged. -/
@[simp] theorem resetLink_keeps (s : State) :
    (resetLink s).role = s.role ∧ (resetLink s).porst = s.porst ∧ (resetLink s).srst = s.srst ∧
    (resetLink s).markPin = s.markPin ∧ (resetLink s).drainPin = s.drainPin ∧ (resetLink s).sp = s.sp ∧
    (resetLink s).control = s.control ∧ (resetLink s).cfg = s.cfg ∧ (resetLink s).enables = s.enables ∧
    (resetLink s).regions = s.regions ∧ (resetLink s).reports = s.reports ∧ (resetLink s).choices = s.choices ∧
    (resetLink s).pending = s.pending := by
  unfold resetLink
  (try dsimp only)
  (repeat' split) <;> simp

/-- What `setLinkEnable` leaves unchanged. -/
@[simp] theorem setLinkEnable_keeps (s : State) :
    (setLinkEnable s).role = s.role ∧ (setLinkEnable s).porst = s.porst ∧ (setLinkEnable s).srst = s.srst ∧
    (setLinkEnable s).markPin = s.markPin ∧ (setLinkEnable s).drainPin = s.drainPin ∧ (setLinkEnable s).sp = s.sp ∧
    (setLinkEnable s).cfg = s.cfg ∧ (setLinkEnable s).causes = s.causes ∧ (setLinkEnable s).enables = s.enables ∧
    (setLinkEnable s).counters = s.counters ∧ (setLinkEnable s).regions = s.regions ∧ (setLinkEnable s).sys = s.sys ∧
    (setLinkEnable s).mem = s.mem ∧ (setLinkEnable s).journal = s.journal ∧ (setLinkEnable s).dirty = s.dirty ∧
    (setLinkEnable s).copy = s.copy ∧ (setLinkEnable s).mirror = s.mirror ∧ (setLinkEnable s).tx = s.tx ∧
    (setLinkEnable s).rx = s.rx ∧ (setLinkEnable s).apply = s.apply ∧ (setLinkEnable s).reports = s.reports ∧
    (setLinkEnable s).choices = s.choices ∧ (setLinkEnable s).pending = s.pending := by
  unfold setLinkEnable
  (try dsimp only)
  (repeat' split) <;> simp

/-- What `clearLinkEnable` leaves unchanged. -/
@[simp] theorem clearLinkEnable_keeps (s : State) :
    (clearLinkEnable s).role = s.role ∧ (clearLinkEnable s).porst = s.porst ∧ (clearLinkEnable s).srst = s.srst ∧
    (clearLinkEnable s).markPin = s.markPin ∧ (clearLinkEnable s).drainPin = s.drainPin ∧ (clearLinkEnable s).sp = s.sp ∧
    (clearLinkEnable s).cfg = s.cfg ∧ (clearLinkEnable s).enables = s.enables ∧ (clearLinkEnable s).regions = s.regions ∧
    (clearLinkEnable s).reports = s.reports ∧ (clearLinkEnable s).choices = s.choices ∧ (clearLinkEnable s).pending = s.pending := by
  unfold clearLinkEnable
  (try dsimp only)
  (repeat' split) <;> simp

/-! ### Receiver -/

/-- What `framingToHunting` leaves unchanged. -/
@[simp] theorem framingToHunting_keeps (s : State) :
    (framingToHunting s).role = s.role ∧ (framingToHunting s).porst = s.porst ∧ (framingToHunting s).srst = s.srst ∧
    (framingToHunting s).markPin = s.markPin ∧ (framingToHunting s).drainPin = s.drainPin ∧ (framingToHunting s).sp = s.sp ∧
    (framingToHunting s).control = s.control ∧ (framingToHunting s).cfg = s.cfg ∧ (framingToHunting s).enables = s.enables ∧
    (framingToHunting s).regions = s.regions ∧ (framingToHunting s).sys = s.sys ∧ (framingToHunting s).mem = s.mem ∧
    (framingToHunting s).journal = s.journal ∧ (framingToHunting s).dirty = s.dirty ∧ (framingToHunting s).copy = s.copy ∧
    (framingToHunting s).mirror = s.mirror ∧ (framingToHunting s).link = s.link ∧ (framingToHunting s).tx = s.tx ∧
    (framingToHunting s).apply = s.apply ∧ (framingToHunting s).reports = s.reports ∧ (framingToHunting s).choices = s.choices ∧
    (framingToHunting s).pending = s.pending :=
  ⟨rfl, rfl, rfl, rfl, rfl, rfl, rfl, rfl, rfl, rfl, rfl, rfl, rfl, rfl, rfl, rfl, rfl, rfl, rfl, rfl, rfl, rfl⟩

/-- What `placeFrame` leaves unchanged. -/
@[simp] theorem placeFrame_keeps (f : Frame) (bytes : List Byte) (s : State) :
    (placeFrame f bytes s).role = s.role ∧ (placeFrame f bytes s).porst = s.porst ∧ (placeFrame f bytes s).srst = s.srst ∧
    (placeFrame f bytes s).markPin = s.markPin ∧ (placeFrame f bytes s).drainPin = s.drainPin ∧ (placeFrame f bytes s).sp = s.sp ∧
    (placeFrame f bytes s).control = s.control ∧ (placeFrame f bytes s).cfg = s.cfg ∧ (placeFrame f bytes s).enables = s.enables ∧
    (placeFrame f bytes s).regions = s.regions ∧ (placeFrame f bytes s).sys = s.sys ∧ (placeFrame f bytes s).mem = s.mem ∧
    (placeFrame f bytes s).journal = s.journal ∧ (placeFrame f bytes s).dirty = s.dirty ∧ (placeFrame f bytes s).copy = s.copy ∧
    (placeFrame f bytes s).mirror = s.mirror ∧ (placeFrame f bytes s).tx = s.tx ∧ (placeFrame f bytes s).apply = s.apply ∧
    (placeFrame f bytes s).reports = s.reports ∧ (placeFrame f bytes s).choices = s.choices ∧ (placeFrame f bytes s).pending = s.pending := by
  unfold placeFrame
  (try dsimp only)
  (repeat' split) <;> simp

/-- What `takeBreakReport` leaves unchanged. -/
@[simp] theorem takeBreakReport_keeps (s : State) :
    (takeBreakReport s).role = s.role ∧ (takeBreakReport s).porst = s.porst ∧ (takeBreakReport s).srst = s.srst ∧
    (takeBreakReport s).markPin = s.markPin ∧ (takeBreakReport s).drainPin = s.drainPin ∧ (takeBreakReport s).sp = s.sp ∧
    (takeBreakReport s).control = s.control ∧ (takeBreakReport s).cfg = s.cfg ∧ (takeBreakReport s).enables = s.enables ∧
    (takeBreakReport s).regions = s.regions ∧ (takeBreakReport s).reports = s.reports ∧ (takeBreakReport s).choices = s.choices ∧
    (takeBreakReport s).pending = s.pending := by
  unfold takeBreakReport
  (try dsimp only)
  (repeat' split) <;> simp

/-- What `breakStopBit` leaves unchanged. -/
@[simp] theorem breakStopBit_keeps (s : State) :
    (breakStopBit s).role = s.role ∧ (breakStopBit s).porst = s.porst ∧ (breakStopBit s).srst = s.srst ∧
    (breakStopBit s).markPin = s.markPin ∧ (breakStopBit s).drainPin = s.drainPin ∧ (breakStopBit s).sp = s.sp ∧
    (breakStopBit s).control = s.control ∧ (breakStopBit s).cfg = s.cfg ∧ (breakStopBit s).enables = s.enables ∧
    (breakStopBit s).regions = s.regions ∧ (breakStopBit s).sys = s.sys ∧ (breakStopBit s).mem = s.mem ∧
    (breakStopBit s).journal = s.journal ∧ (breakStopBit s).dirty = s.dirty ∧ (breakStopBit s).copy = s.copy ∧
    (breakStopBit s).mirror = s.mirror ∧ (breakStopBit s).link = s.link ∧ (breakStopBit s).tx = s.tx ∧
    (breakStopBit s).apply = s.apply ∧ (breakStopBit s).reports = s.reports ∧ (breakStopBit s).choices = s.choices ∧
    (breakStopBit s).pending = s.pending := by
  unfold breakStopBit
  (try dsimp only)
  (repeat' split) <;> simp

/-! ### ServicePort -/

/-- What `respond` leaves unchanged. -/
@[simp] theorem respond_keeps (r : Response) (s : State) :
    (respond r s).role = s.role ∧ (respond r s).porst = s.porst ∧ (respond r s).srst = s.srst ∧
    (respond r s).markPin = s.markPin ∧ (respond r s).drainPin = s.drainPin ∧ (respond r s).control = s.control ∧
    (respond r s).cfg = s.cfg ∧ (respond r s).causes = s.causes ∧ (respond r s).enables = s.enables ∧
    (respond r s).counters = s.counters ∧ (respond r s).regions = s.regions ∧ (respond r s).sys = s.sys ∧
    (respond r s).mem = s.mem ∧ (respond r s).journal = s.journal ∧ (respond r s).dirty = s.dirty ∧
    (respond r s).copy = s.copy ∧ (respond r s).mirror = s.mirror ∧ (respond r s).link = s.link ∧
    (respond r s).tx = s.tx ∧ (respond r s).rx = s.rx ∧ (respond r s).apply = s.apply ∧
    (respond r s).reports = s.reports ∧ (respond r s).choices = s.choices ∧ (respond r s).pending = s.pending :=
  ⟨rfl, rfl, rfl, rfl, rfl, rfl, rfl, rfl, rfl, rfl, rfl, rfl, rfl, rfl, rfl, rfl, rfl, rfl, rfl, rfl, rfl, rfl, rfl, rfl⟩

/-- What `startOrigin` leaves unchanged. -/
@[simp] theorem startOrigin_keeps (s : State) :
    (startOrigin s).role = s.role ∧ (startOrigin s).porst = s.porst ∧ (startOrigin s).srst = s.srst ∧
    (startOrigin s).markPin = s.markPin ∧ (startOrigin s).drainPin = s.drainPin ∧ (startOrigin s).sp = s.sp ∧
    (startOrigin s).control = s.control ∧ (startOrigin s).cfg = s.cfg ∧ (startOrigin s).enables = s.enables ∧
    (startOrigin s).regions = s.regions ∧ (startOrigin s).reports = s.reports ∧ (startOrigin s).choices = s.choices ∧
    (startOrigin s).pending = s.pending := by
  unfold startOrigin
  (try dsimp only)
  (repeat' split) <;> simp

/-- What `stopMirroring` leaves unchanged. -/
@[simp] theorem stopMirroring_keeps (s : State) :
    (stopMirroring s).role = s.role ∧ (stopMirroring s).porst = s.porst ∧ (stopMirroring s).srst = s.srst ∧
    (stopMirroring s).markPin = s.markPin ∧ (stopMirroring s).drainPin = s.drainPin ∧ (stopMirroring s).sp = s.sp ∧
    (stopMirroring s).control = s.control ∧ (stopMirroring s).cfg = s.cfg ∧ (stopMirroring s).enables = s.enables ∧
    (stopMirroring s).counters = s.counters ∧ (stopMirroring s).regions = s.regions ∧ (stopMirroring s).link = s.link ∧
    (stopMirroring s).rx = s.rx ∧ (stopMirroring s).apply = s.apply ∧ (stopMirroring s).reports = s.reports ∧
    (stopMirroring s).choices = s.choices ∧ (stopMirroring s).pending = s.pending := by
  unfold stopMirroring
  (try dsimp only)
  (repeat' split) <;> simp

/-- What `stopOrigin` leaves unchanged. -/
@[simp] theorem stopOrigin_keeps (s : State) :
    (stopOrigin s).role = s.role ∧ (stopOrigin s).porst = s.porst ∧ (stopOrigin s).srst = s.srst ∧
    (stopOrigin s).markPin = s.markPin ∧ (stopOrigin s).drainPin = s.drainPin ∧ (stopOrigin s).sp = s.sp ∧
    (stopOrigin s).control = s.control ∧ (stopOrigin s).cfg = s.cfg ∧ (stopOrigin s).enables = s.enables ∧
    (stopOrigin s).regions = s.regions ∧ (stopOrigin s).reports = s.reports ∧ (stopOrigin s).choices = s.choices ∧
    (stopOrigin s).pending = s.pending := by
  unfold stopOrigin
  (try dsimp only)
  (repeat' split) <;> simp

/-- What `reseed` leaves unchanged. -/
@[simp] theorem reseed_keeps (s : State) :
    (reseed s).role = s.role ∧ (reseed s).porst = s.porst ∧ (reseed s).srst = s.srst ∧
    (reseed s).markPin = s.markPin ∧ (reseed s).drainPin = s.drainPin ∧ (reseed s).sp = s.sp ∧
    (reseed s).control = s.control ∧ (reseed s).cfg = s.cfg ∧ (reseed s).enables = s.enables ∧
    (reseed s).counters = s.counters ∧ (reseed s).regions = s.regions ∧ (reseed s).sys = s.sys ∧
    (reseed s).mem = s.mem ∧ (reseed s).journal = s.journal ∧ (reseed s).link = s.link ∧
    (reseed s).tx = s.tx ∧ (reseed s).rx = s.rx ∧ (reseed s).apply = s.apply ∧
    (reseed s).reports = s.reports ∧ (reseed s).choices = s.choices ∧ (reseed s).pending = s.pending := by
  unfold reseed
  (try dsimp only)
  (repeat' split) <;> simp

/-- What `fenceWaiting` leaves unchanged. -/
@[simp] theorem fenceWaiting_keeps (s : State) :
    (fenceWaiting s).role = s.role ∧ (fenceWaiting s).porst = s.porst ∧ (fenceWaiting s).srst = s.srst ∧
    (fenceWaiting s).markPin = s.markPin ∧ (fenceWaiting s).drainPin = s.drainPin ∧ (fenceWaiting s).sp = s.sp ∧
    (fenceWaiting s).control = s.control ∧ (fenceWaiting s).cfg = s.cfg ∧ (fenceWaiting s).enables = s.enables ∧
    (fenceWaiting s).regions = s.regions ∧ (fenceWaiting s).journal = s.journal ∧ (fenceWaiting s).dirty = s.dirty ∧
    (fenceWaiting s).copy = s.copy ∧ (fenceWaiting s).mirror = s.mirror ∧ (fenceWaiting s).link = s.link ∧
    (fenceWaiting s).tx = s.tx ∧ (fenceWaiting s).rx = s.rx ∧ (fenceWaiting s).apply = s.apply ∧
    (fenceWaiting s).reports = s.reports ∧ (fenceWaiting s).choices = s.choices ∧ (fenceWaiting s).pending = s.pending := by
  unfold fenceWaiting
  (try dsimp only)
  (repeat' split) <;> simp

/-- What `startReplica` leaves unchanged. -/
@[simp] theorem startReplica_keeps (s : State) :
    (startReplica s).role = s.role ∧ (startReplica s).porst = s.porst ∧ (startReplica s).srst = s.srst ∧
    (startReplica s).markPin = s.markPin ∧ (startReplica s).drainPin = s.drainPin ∧ (startReplica s).sp = s.sp ∧
    (startReplica s).control = s.control ∧ (startReplica s).cfg = s.cfg ∧ (startReplica s).enables = s.enables ∧
    (startReplica s).regions = s.regions ∧ (startReplica s).journal = s.journal ∧ (startReplica s).dirty = s.dirty ∧
    (startReplica s).copy = s.copy ∧ (startReplica s).link = s.link ∧ (startReplica s).tx = s.tx ∧
    (startReplica s).rx = s.rx ∧ (startReplica s).reports = s.reports ∧ (startReplica s).choices = s.choices ∧
    (startReplica s).pending = s.pending := by
  unfold startReplica
  (try dsimp only)
  (repeat' split) <;> simp

/-- What `stopReplica` leaves unchanged. -/
@[simp] theorem stopReplica_keeps (s : State) :
    (stopReplica s).role = s.role ∧ (stopReplica s).porst = s.porst ∧ (stopReplica s).srst = s.srst ∧
    (stopReplica s).markPin = s.markPin ∧ (stopReplica s).drainPin = s.drainPin ∧ (stopReplica s).sp = s.sp ∧
    (stopReplica s).control = s.control ∧ (stopReplica s).cfg = s.cfg ∧ (stopReplica s).enables = s.enables ∧
    (stopReplica s).regions = s.regions ∧ (stopReplica s).reports = s.reports ∧ (stopReplica s).choices = s.choices ∧
    (stopReplica s).pending = s.pending := by
  unfold stopReplica
  (try dsimp only)
  (repeat' split) <;> simp

/-- What `setMerge` leaves unchanged. -/
@[simp] theorem setMerge_keeps (v : Bool) (s : State) :
    (setMerge v s).role = s.role ∧ (setMerge v s).porst = s.porst ∧ (setMerge v s).srst = s.srst ∧
    (setMerge v s).markPin = s.markPin ∧ (setMerge v s).drainPin = s.drainPin ∧ (setMerge v s).sp = s.sp ∧
    (setMerge v s).cfg = s.cfg ∧ (setMerge v s).causes = s.causes ∧ (setMerge v s).enables = s.enables ∧
    (setMerge v s).counters = s.counters ∧ (setMerge v s).regions = s.regions ∧ (setMerge v s).sys = s.sys ∧
    (setMerge v s).mem = s.mem ∧ (setMerge v s).journal = s.journal ∧ (setMerge v s).dirty = s.dirty ∧
    (setMerge v s).copy = s.copy ∧ (setMerge v s).mirror = s.mirror ∧ (setMerge v s).link = s.link ∧
    (setMerge v s).tx = s.tx ∧ (setMerge v s).rx = s.rx ∧ (setMerge v s).apply = s.apply ∧
    (setMerge v s).reports = s.reports ∧ (setMerge v s).choices = s.choices ∧ (setMerge v s).pending = s.pending :=
  ⟨rfl, rfl, rfl, rfl, rfl, rfl, rfl, rfl, rfl, rfl, rfl, rfl, rfl, rfl, rfl, rfl, rfl, rfl, rfl, rfl, rfl, rfl, rfl, rfl⟩

/-- What `setArb` leaves unchanged. -/
@[simp] theorem setArb_keeps (v : ArbPolicy) (s : State) :
    (setArb v s).role = s.role ∧ (setArb v s).porst = s.porst ∧ (setArb v s).srst = s.srst ∧
    (setArb v s).markPin = s.markPin ∧ (setArb v s).drainPin = s.drainPin ∧ (setArb v s).sp = s.sp ∧
    (setArb v s).cfg = s.cfg ∧ (setArb v s).causes = s.causes ∧ (setArb v s).enables = s.enables ∧
    (setArb v s).counters = s.counters ∧ (setArb v s).regions = s.regions ∧ (setArb v s).sys = s.sys ∧
    (setArb v s).mem = s.mem ∧ (setArb v s).journal = s.journal ∧ (setArb v s).dirty = s.dirty ∧
    (setArb v s).copy = s.copy ∧ (setArb v s).mirror = s.mirror ∧ (setArb v s).link = s.link ∧
    (setArb v s).tx = s.tx ∧ (setArb v s).rx = s.rx ∧ (setArb v s).apply = s.apply ∧
    (setArb v s).reports = s.reports ∧ (setArb v s).choices = s.choices ∧ (setArb v s).pending = s.pending :=
  ⟨rfl, rfl, rfl, rfl, rfl, rfl, rfl, rfl, rfl, rfl, rfl, rfl, rfl, rfl, rfl, rfl, rfl, rfl, rfl, rfl, rfl, rfl, rfl, rfl⟩

/-- What `setPace` leaves unchanged. -/
@[simp] theorem setPace_keeps (v : PacePolicy) (s : State) :
    (setPace v s).role = s.role ∧ (setPace v s).porst = s.porst ∧ (setPace v s).srst = s.srst ∧
    (setPace v s).markPin = s.markPin ∧ (setPace v s).drainPin = s.drainPin ∧ (setPace v s).sp = s.sp ∧
    (setPace v s).cfg = s.cfg ∧ (setPace v s).causes = s.causes ∧ (setPace v s).enables = s.enables ∧
    (setPace v s).counters = s.counters ∧ (setPace v s).regions = s.regions ∧ (setPace v s).sys = s.sys ∧
    (setPace v s).mem = s.mem ∧ (setPace v s).journal = s.journal ∧ (setPace v s).dirty = s.dirty ∧
    (setPace v s).copy = s.copy ∧ (setPace v s).mirror = s.mirror ∧ (setPace v s).link = s.link ∧
    (setPace v s).tx = s.tx ∧ (setPace v s).rx = s.rx ∧ (setPace v s).apply = s.apply ∧
    (setPace v s).reports = s.reports ∧ (setPace v s).choices = s.choices ∧ (setPace v s).pending = s.pending :=
  ⟨rfl, rfl, rfl, rfl, rfl, rfl, rfl, rfl, rfl, rfl, rfl, rfl, rfl, rfl, rfl, rfl, rfl, rfl, rfl, rfl, rfl, rfl, rfl, rfl⟩

/-- What `writeSettings` leaves unchanged. -/
@[simp] theorem writeSettings_keeps (c : Option Settings) (s : State) :
    (writeSettings c s).role = s.role ∧ (writeSettings c s).porst = s.porst ∧ (writeSettings c s).srst = s.srst ∧
    (writeSettings c s).markPin = s.markPin ∧ (writeSettings c s).drainPin = s.drainPin ∧ (writeSettings c s).control = s.control ∧
    (writeSettings c s).causes = s.causes ∧ (writeSettings c s).enables = s.enables ∧ (writeSettings c s).counters = s.counters ∧
    (writeSettings c s).regions = s.regions ∧ (writeSettings c s).sys = s.sys ∧ (writeSettings c s).mem = s.mem ∧
    (writeSettings c s).journal = s.journal ∧ (writeSettings c s).dirty = s.dirty ∧ (writeSettings c s).copy = s.copy ∧
    (writeSettings c s).mirror = s.mirror ∧ (writeSettings c s).link = s.link ∧ (writeSettings c s).tx = s.tx ∧
    (writeSettings c s).rx = s.rx ∧ (writeSettings c s).apply = s.apply ∧ (writeSettings c s).reports = s.reports ∧
    (writeSettings c s).choices = s.choices ∧ (writeSettings c s).pending = s.pending := by
  unfold writeSettings
  (try dsimp only)
  (repeat' split) <;> simp

/-- What `writeCopySettings` leaves unchanged. -/
@[simp] theorem writeCopySettings_keeps (c : Option Settings) (s : State) :
    (writeCopySettings c s).role = s.role ∧ (writeCopySettings c s).porst = s.porst ∧ (writeCopySettings c s).srst = s.srst ∧
    (writeCopySettings c s).markPin = s.markPin ∧ (writeCopySettings c s).drainPin = s.drainPin ∧ (writeCopySettings c s).control = s.control ∧
    (writeCopySettings c s).causes = s.causes ∧ (writeCopySettings c s).enables = s.enables ∧ (writeCopySettings c s).counters = s.counters ∧
    (writeCopySettings c s).regions = s.regions ∧ (writeCopySettings c s).sys = s.sys ∧ (writeCopySettings c s).mem = s.mem ∧
    (writeCopySettings c s).journal = s.journal ∧ (writeCopySettings c s).dirty = s.dirty ∧ (writeCopySettings c s).mirror = s.mirror ∧
    (writeCopySettings c s).link = s.link ∧ (writeCopySettings c s).tx = s.tx ∧ (writeCopySettings c s).rx = s.rx ∧
    (writeCopySettings c s).apply = s.apply ∧ (writeCopySettings c s).reports = s.reports ∧ (writeCopySettings c s).choices = s.choices ∧
    (writeCopySettings c s).pending = s.pending := by
  unfold writeCopySettings
  (try dsimp only)
  (repeat' split) <;> simp

/-- What `selectPort` leaves unchanged. -/
@[simp] theorem selectPort_keeps (s : State) :
    (selectPort s).role = s.role ∧ (selectPort s).porst = s.porst ∧ (selectPort s).srst = s.srst ∧
    (selectPort s).markPin = s.markPin ∧ (selectPort s).drainPin = s.drainPin ∧ (selectPort s).control = s.control ∧
    (selectPort s).cfg = s.cfg ∧ (selectPort s).causes = s.causes ∧ (selectPort s).enables = s.enables ∧
    (selectPort s).counters = s.counters ∧ (selectPort s).regions = s.regions ∧ (selectPort s).sys = s.sys ∧
    (selectPort s).mem = s.mem ∧ (selectPort s).journal = s.journal ∧ (selectPort s).dirty = s.dirty ∧
    (selectPort s).copy = s.copy ∧ (selectPort s).mirror = s.mirror ∧ (selectPort s).link = s.link ∧
    (selectPort s).tx = s.tx ∧ (selectPort s).rx = s.rx ∧ (selectPort s).apply = s.apply ∧
    (selectPort s).reports = s.reports ∧ (selectPort s).choices = s.choices ∧ (selectPort s).pending = s.pending :=
  ⟨rfl, rfl, rfl, rfl, rfl, rfl, rfl, rfl, rfl, rfl, rfl, rfl, rfl, rfl, rfl, rfl, rfl, rfl, rfl, rfl, rfl, rfl, rfl, rfl⟩

/-- What `deselectPort` leaves unchanged. -/
@[simp] theorem deselectPort_keeps (s : State) :
    (deselectPort s).role = s.role ∧ (deselectPort s).porst = s.porst ∧ (deselectPort s).srst = s.srst ∧
    (deselectPort s).markPin = s.markPin ∧ (deselectPort s).drainPin = s.drainPin ∧ (deselectPort s).control = s.control ∧
    (deselectPort s).cfg = s.cfg ∧ (deselectPort s).causes = s.causes ∧ (deselectPort s).enables = s.enables ∧
    (deselectPort s).counters = s.counters ∧ (deselectPort s).regions = s.regions ∧ (deselectPort s).sys = s.sys ∧
    (deselectPort s).mem = s.mem ∧ (deselectPort s).journal = s.journal ∧ (deselectPort s).dirty = s.dirty ∧
    (deselectPort s).copy = s.copy ∧ (deselectPort s).mirror = s.mirror ∧ (deselectPort s).link = s.link ∧
    (deselectPort s).tx = s.tx ∧ (deselectPort s).rx = s.rx ∧ (deselectPort s).apply = s.apply ∧
    (deselectPort s).reports = s.reports ∧ (deselectPort s).choices = s.choices ∧ (deselectPort s).pending = s.pending :=
  ⟨rfl, rfl, rfl, rfl, rfl, rfl, rfl, rfl, rfl, rfl, rfl, rfl, rfl, rfl, rfl, rfl, rfl, rfl, rfl, rfl, rfl, rfl, rfl, rfl⟩

/-- What `takeAtIndexByte` leaves unchanged. -/
@[simp] theorem takeAtIndexByte_keeps (opcode index : Byte) (s : State) :
    (takeAtIndexByte opcode index s).role = s.role ∧ (takeAtIndexByte opcode index s).porst = s.porst ∧ (takeAtIndexByte opcode index s).srst = s.srst ∧
    (takeAtIndexByte opcode index s).markPin = s.markPin ∧ (takeAtIndexByte opcode index s).drainPin = s.drainPin ∧ (takeAtIndexByte opcode index s).control = s.control ∧
    (takeAtIndexByte opcode index s).cfg = s.cfg ∧ (takeAtIndexByte opcode index s).causes = s.causes ∧ (takeAtIndexByte opcode index s).enables = s.enables ∧
    (takeAtIndexByte opcode index s).counters = s.counters ∧ (takeAtIndexByte opcode index s).regions = s.regions ∧ (takeAtIndexByte opcode index s).sys = s.sys ∧
    (takeAtIndexByte opcode index s).mem = s.mem ∧ (takeAtIndexByte opcode index s).journal = s.journal ∧ (takeAtIndexByte opcode index s).dirty = s.dirty ∧
    (takeAtIndexByte opcode index s).copy = s.copy ∧ (takeAtIndexByte opcode index s).mirror = s.mirror ∧ (takeAtIndexByte opcode index s).link = s.link ∧
    (takeAtIndexByte opcode index s).tx = s.tx ∧ (takeAtIndexByte opcode index s).rx = s.rx ∧ (takeAtIndexByte opcode index s).apply = s.apply ∧
    (takeAtIndexByte opcode index s).reports = s.reports ∧ (takeAtIndexByte opcode index s).choices = s.choices ∧ (takeAtIndexByte opcode index s).pending = s.pending := by
  unfold takeAtIndexByte
  (try dsimp only)
  (repeat' split) <;> simp

/-- What `serviceByteTime` leaves unchanged. -/
@[simp] theorem serviceByteTime_keeps (s : State) :
    (serviceByteTime s).role = s.role ∧ (serviceByteTime s).porst = s.porst ∧ (serviceByteTime s).srst = s.srst ∧
    (serviceByteTime s).markPin = s.markPin ∧ (serviceByteTime s).drainPin = s.drainPin ∧ (serviceByteTime s).control = s.control ∧
    (serviceByteTime s).cfg = s.cfg ∧ (serviceByteTime s).causes = s.causes ∧ (serviceByteTime s).enables = s.enables ∧
    (serviceByteTime s).counters = s.counters ∧ (serviceByteTime s).regions = s.regions ∧ (serviceByteTime s).sys = s.sys ∧
    (serviceByteTime s).mem = s.mem ∧ (serviceByteTime s).journal = s.journal ∧ (serviceByteTime s).dirty = s.dirty ∧
    (serviceByteTime s).copy = s.copy ∧ (serviceByteTime s).mirror = s.mirror ∧ (serviceByteTime s).link = s.link ∧
    (serviceByteTime s).tx = s.tx ∧ (serviceByteTime s).rx = s.rx ∧ (serviceByteTime s).apply = s.apply ∧
    (serviceByteTime s).reports = s.reports ∧ (serviceByteTime s).choices = s.choices ∧ (serviceByteTime s).pending = s.pending := by
  unfold serviceByteTime
  (repeat' split) <;> (try simp_all only [clockByte, takeAtDataEnd, if_false]) <;> (repeat' split) <;> simp

/-! ### What the small operations change -/

@[simp] theorem raise_causes (c : Cause) (s : State) : (raise c s).causes = s.causes ||| (1#13 <<< c.bit) := rfl

@[simp] theorem bump_counters (c : Counter) (s : State) :
    (bump c s).counters = s.counters.set c.index (saturate s.counters[c.index]) := rfl

@[simp] theorem markDirty_dirty (b : Block) (s : State) : (markDirty b s).dirty = s.dirty.mark b := rfl

@[simp] theorem markDirty_reports (b : Block) (s : State) :
    (markDirty b s).reports =
      { s.reports with marks := s.reports.marks ++ [⟨b, !decide (b ∈ s.dirty.blocks)⟩] } := rfl

@[simp] theorem markWithin_dirty (b : Block) (s : State) : (markWithin b s).dirty = s.dirty.mark b := rfl

@[simp] theorem seedDirty_dirty (s : State) : (seedDirty s).dirty = s.dirty.seed s.regions.toList := rfl

@[simp] theorem completeSystem_sys (t : Transaction) (code : Completion) (data : Line) (s : State) :
    (completeSystem t code data s).sys = { s.sys with phase := .complete t code data } := rfl

@[simp] theorem releaseHeld_sys (t : Transaction) (s : State) :
    (releaseHeld t s).sys = ⟨.complete t .ok 0, none⟩ := rfl

@[simp] theorem emptyBuffer_tx (s : State) : (emptyBuffer s).tx = { s.tx with buffer := none } := rfl

@[simp] theorem releaseSlot_rx (s : State) : (releaseSlot s).rx = { s.rx with slots := s.rx.slots.tail } := rfl

@[simp] theorem respond_sp (r : Response) (s : State) :
    (respond r s).sp = { s.sp with phase := .response, dataOut := 0, response := some r } := rfl

@[simp] theorem selectPort_sp (s : State) :
    (selectPort s).sp = { s.sp with phase := .opcode, dataOut := 0, response := none } := rfl

@[simp] theorem deselectPort_sp (s : State) : (deselectPort s).sp = { s.sp with phase := .deselected } := rfl

@[simp] theorem mergeWrite_journal (t : Transaction) (s : State) :
    (mergeWrite t s).journal = s.journal.merge (captureMask t) (captureData t) := rfl

@[simp] theorem appendWrite_journal (t : Transaction) (s : State) :
    (appendWrite t s).journal =
      s.journal.push (writeBody (lineAddress t.address) (captureMask t) (captureData t)) := rfl

@[simp] theorem reserveCopy_journal (b : Block) (i : Fin 4) (s : State) :
    (reserveCopy b i s).journal = s.journal.push (.block b i .reading) := rfl

@[simp] theorem toMemory_sys (t : Transaction) (s : State) :
    (toMemory t s).sys = { s.sys with phase := .atMemory t } := rfl

@[simp] theorem toMemory_mem (t : Transaction) (s : State) :
    (toMemory t s).mem = s.mem.requestSystem (memTransactionOf t) := rfl

@[simp] theorem abandonCopies_copy (s : State) :
    (abandonCopies s).copy = { s.copy with
      records := []
      pacingTimer := none
      outstanding := if s.mem.engineRequest.isSome then none else s.copy.outstanding } := rfl

@[simp] theorem abandonCopies_mem (s : State) : (abandonCopies s).mem = s.mem.withdrawEngine := rfl

@[simp] theorem resetAckState_apply (s : State) :
    (resetAckState s).apply = { s.apply with ackCount := 0, lastNaked := none } := rfl

/-- The copy engine's examination changes its pending start alone (R82). -/
@[simp] theorem examineCopy_copy (s : State) :
    (examineCopy s).copy = { s.copy with pendingStart := s.copy.pendingStart || s.mayDecideCopy } := by
  unfold examineCopy
  cases h : s.mayDecideCopy <;> simp

/-- A load builds no frame from a READING block, and one from any other entry (R19, R20). -/
theorem frameOf_none (session : SessionNo) (buffers : Vector CopyBuffer 4) (e : Entry) :
    frameOf session buffers e = none ↔ e.isReading = true := by
  obtain ⟨seq, sent, body⟩ := e
  cases body with
  | write line mask data => simp [frameOf, Entry.isReading]
  | mark n c d => simp [frameOf, Entry.isReading]
  | block n b st => cases st <;> simp [frameOf, Entry.isReading]

end Sys2Proof.Machine
end

