-- ==== Sys2Proof/Laws/Parts.lean ====
section
/-! SUPPORT. What each shared operation leaves unchanged inside the parts it changes. -/

namespace Sys2Proof.Machine

@[simp] theorem MemoryPort.withdrawEngine_phase (p : MemoryPort) : p.withdrawEngine.phase = p.phase := rfl
@[simp] theorem MemoryPort.withdrawEngine_systemRequest (p : MemoryPort) :
    p.withdrawEngine.systemRequest = p.systemRequest := rfl
@[simp] theorem MemoryPort.withdrawEngine_lastGranted (p : MemoryPort) :
    p.withdrawEngine.lastGranted = p.lastGranted := rfl
@[simp] theorem Journal.push_lastAcked (body : EntryBody) (j : Journal) : (j.push body).lastAcked = j.lastAcked := rfl
@[simp] theorem Journal.push_sendPoint (body : EntryBody) (j : Journal) : (j.push body).sendPoint = j.sendPoint := rfl
@[simp] theorem Journal.push_nextSeq (body : EntryBody) (j : Journal) : (j.push body).nextSeq = j.nextSeq + 1 := rfl
@[simp] theorem Journal.loaded_lastAcked (j : Journal) : j.loaded.lastAcked = j.lastAcked := rfl
@[simp] theorem Journal.loaded_nextSeq (j : Journal) : j.loaded.nextSeq = j.nextSeq := rfl
@[simp] theorem Journal.emptied_lastAcked (j : Journal) : j.emptied.lastAcked = j.lastAcked := rfl
@[simp] theorem Journal.emptied_nextSeq (j : Journal) : j.emptied.nextSeq = j.nextSeq := rfl
@[simp] theorem Journal.merge_lastAcked (mask : Mask) (data : Line) (j : Journal) :
    (j.merge mask data).lastAcked = j.lastAcked := rfl
@[simp] theorem Journal.merge_nextSeq (mask : Mask) (data : Line) (j : Journal) :
    (j.merge mask data).nextSeq = j.nextSeq := rfl
@[simp] theorem Journal.acknowledged_nextSeq (n : Seq) (j : Journal) : (j.acknowledged n).nextSeq = j.nextSeq := rfl

/-- Parts that `examineCopy` leaves unchanged of what it changes. -/
@[simp] theorem examineCopy_parts (s : State) :
    (examineCopy s).copy.buffers = s.copy.buffers ∧ (examineCopy s).copy.records = s.copy.records ∧
    (examineCopy s).copy.outstanding = s.copy.outstanding ∧ (examineCopy s).copy.paused = s.copy.paused ∧
    (examineCopy s).copy.pacingTimer = s.copy.pacingTimer ∧ (examineCopy s).copy.faultBlock = s.copy.faultBlock := by
  unfold examineCopy
  (try dsimp only)
  all_goals ((repeat' split) <;> (try simp_all))

/-- Parts that `markDirty` leaves unchanged of what it changes. -/
@[simp] theorem markDirty_parts (b : Block) (s : State) :
    (markDirty b s).reports.mirrorAcks = s.reports.mirrorAcks ∧
    (markDirty b s).reports.captureAcks = s.reports.captureAcks := by
  unfold markDirty
  (try dsimp only)
  all_goals ((repeat' split) <;> (try simp_all))

/-- Parts that `checkSynced` leaves unchanged of what it changes. -/
@[simp] theorem checkSynced_parts (s : State) :
    (checkSynced s).mirror.replica = s.mirror.replica ∧ (checkSynced s).mirror.pendingMark = s.mirror.pendingMark ∧
    (checkSynced s).mirror.drain = s.mirror.drain ∧ (checkSynced s).mirror.lastIssued = s.mirror.lastIssued ∧
    (checkSynced s).mirror.lastAckedMark = s.mirror.lastAckedMark := by
  unfold checkSynced
  (try dsimp only)
  all_goals ((repeat' split) <;> (try simp_all))

/-- Parts that `emptyBuffer` leaves unchanged of what it changes. -/
@[simp] theorem emptyBuffer_parts (s : State) :
    (emptyBuffer s).tx.slot = s.tx.slot ∧ (emptyBuffer s).tx.line = s.tx.line ∧
    (emptyBuffer s).tx.breakPending = s.tx.breakPending := by
  unfold emptyBuffer
  (try dsimp only)
  all_goals ((repeat' split) <;> (try simp_all))

/-- Parts that `presentRead` leaves unchanged of what it changes. -/
@[simp] theorem presentRead_parts (s : State) :
    (presentRead s).copy.buffers = s.copy.buffers ∧ (presentRead s).copy.paused = s.copy.paused ∧
    (presentRead s).copy.pendingStart = s.copy.pendingStart ∧ (presentRead s).copy.faultBlock = s.copy.faultBlock ∧
    (presentRead s).copy.records = s.copy.records := by
  unfold presentRead
  (try dsimp only)
  all_goals ((repeat' split) <;> (try simp_all))

/-- Parts that `abandonCopies` leaves unchanged of what it changes. -/
@[simp] theorem abandonCopies_parts (s : State) :
    (abandonCopies s).copy.buffers = s.copy.buffers ∧ (abandonCopies s).copy.paused = s.copy.paused ∧
    (abandonCopies s).copy.pendingStart = s.copy.pendingStart ∧ (abandonCopies s).copy.faultBlock = s.copy.faultBlock ∧
    (abandonCopies s).mem.phase = s.mem.phase ∧ (abandonCopies s).mem.systemRequest = s.mem.systemRequest ∧
    (abandonCopies s).mem.lastGranted = s.mem.lastGranted := by
  unfold abandonCopies
  (try dsimp only)
  all_goals ((repeat' split) <;> (try simp_all))

/-- Parts that `reserveCopy` leaves unchanged of what it changes. -/
@[simp] theorem reserveCopy_parts (b : Block) (i : Fin 4) (s : State) :
    (reserveCopy b i s).journal.lastAcked = s.journal.lastAcked := by
  unfold reserveCopy
  (try dsimp only)
  all_goals ((repeat' split) <;> (try simp_all))

/-- Parts that `startTaken` leaves unchanged of what it changes. -/
@[simp] theorem startTaken_parts (b : Block) (s : State) :
    (startTaken b s).journal.lastAcked = s.journal.lastAcked := by
  unfold startTaken
  (try dsimp only)
  all_goals ((repeat' split) <;> (try simp_all))

/-- Parts that `reportCopyFault` leaves unchanged of what it changes. -/
@[simp] theorem reportCopyFault_parts (b : Block) (s : State) :
    (reportCopyFault b s).mirror.state = s.mirror.state ∧ (reportCopyFault b s).mirror.replica = s.mirror.replica ∧
    (reportCopyFault b s).mirror.pendingMark = s.mirror.pendingMark ∧ (reportCopyFault b s).mirror.drain = s.mirror.drain ∧
    (reportCopyFault b s).copy.records = s.copy.records ∧ (reportCopyFault b s).copy.buffers = s.copy.buffers := by
  unfold reportCopyFault
  (try dsimp only)
  all_goals ((repeat' split) <;> (try simp_all))

/-- Parts that `endCopy` leaves unchanged of what it changes. -/
@[simp] theorem endCopy_parts (r : CopyRecord) (s : State) :
    (endCopy r s).mirror.state = s.mirror.state ∧ (endCopy r s).mirror.replica = s.mirror.replica ∧
    (endCopy r s).mirror.pendingMark = s.mirror.pendingMark ∧ (endCopy r s).mirror.drain = s.mirror.drain ∧
    (endCopy r s).copy.buffers = s.copy.buffers := by
  unfold endCopy
  (try dsimp only)
  all_goals ((repeat' split) <;> (try simp_all))

/-- Parts that `takeLine` leaves unchanged of what it changes. -/
@[simp] theorem takeLine_parts (r : CopyRecord) (answer : MemAnswer) (data : Line) (s : State) :
    (takeLine r answer data s).mirror.state = s.mirror.state ∧ (takeLine r answer data s).mirror.replica = s.mirror.replica ∧
    (takeLine r answer data s).mirror.pendingMark = s.mirror.pendingMark ∧
    (takeLine r answer data s).mirror.drain = s.mirror.drain := by
  unfold takeLine
  (try dsimp only)
  all_goals ((repeat' split) <;> (try simp_all))

/-- Parts that `copyAnswer` leaves unchanged of what it changes. -/
@[simp] theorem copyAnswer_parts (id : ReadId) (answer : MemAnswer) (data : Line) (s : State) :
    (copyAnswer id answer data s).mirror.state = s.mirror.state ∧
    (copyAnswer id answer data s).mirror.replica = s.mirror.replica ∧
    (copyAnswer id answer data s).mirror.pendingMark = s.mirror.pendingMark ∧
    (copyAnswer id answer data s).mirror.drain = s.mirror.drain := by
  unfold copyAnswer
  (try dsimp only)
  all_goals ((repeat' split) <;> (try simp_all))

/-- Parts that `offerControl` leaves unchanged of what it changes. -/
@[simp] theorem offerControl_parts (seq : Seq) (body : FrameBody) (s : State) :
    (offerControl seq body s).tx.buffer = s.tx.buffer ∧ (offerControl seq body s).tx.line = s.tx.line ∧
    (offerControl seq body s).tx.breakPending = s.tx.breakPending := by
  unfold offerControl
  (try dsimp only)
  all_goals ((repeat' split) <;> (try simp_all))

/-- Parts that `takeLoad` leaves unchanged of what it changes. -/
@[simp] theorem takeLoad_parts (e : Entry) (f : Frame) (s : State) :
    (takeLoad e f s).tx.slot = s.tx.slot ∧ (takeLoad e f s).tx.line = s.tx.line ∧
    (takeLoad e f s).tx.breakPending = s.tx.breakPending ∧ (takeLoad e f s).journal.nextSeq = s.journal.nextSeq ∧
    (takeLoad e f s).journal.lastAcked = s.journal.lastAcked := by
  unfold takeLoad
  (try dsimp only)
  all_goals ((repeat' split) <;> (try simp_all))

/-- Parts that `stopKeepaliveInUp` leaves unchanged of what it changes. -/
@[simp] theorem stopKeepaliveInUp_parts (s : State) :
    (stopKeepaliveInUp s).link.state = s.link.state ∧ (stopKeepaliveInUp s).link.session = s.link.session ∧
    (stopKeepaliveInUp s).link.partnerFresh = s.link.partnerFresh ∧
    (stopKeepaliveInUp s).link.silenceTimer = s.link.silenceTimer := by
  unfold stopKeepaliveInUp
  (try dsimp only)
  all_goals ((repeat' split) <;> (try simp_all))

/-- Parts that `boundaryTake` leaves unchanged of what it changes. -/
@[simp] theorem boundaryTake_parts (s : State) :
    (boundaryTake s).link.state = s.link.state ∧ (boundaryTake s).link.session = s.link.session ∧
    (boundaryTake s).link.partnerFresh = s.link.partnerFresh ∧ (boundaryTake s).link.silenceTimer = s.link.silenceTimer := by
  unfold boundaryTake
  (try dsimp only)
  all_goals ((repeat' split) <;> (try simp_all))

/-- Parts that `endOfFrameReport` leaves unchanged of what it changes. -/
@[simp] theorem endOfFrameReport_parts (f : Frame) (s : State) :
    (endOfFrameReport f s).link.state = s.link.state ∧ (endOfFrameReport f s).link.session = s.link.session ∧
    (endOfFrameReport f s).link.partnerFresh = s.link.partnerFresh ∧
    (endOfFrameReport f s).link.silenceTimer = s.link.silenceTimer := by
  unfold endOfFrameReport
  (try dsimp only)
  all_goals ((repeat' split) <;> (try simp_all))

/-- Parts that `failDrain` leaves unchanged of what it changes. -/
@[simp] theorem failDrain_parts (s : State) :
    (failDrain s).mirror.state = s.mirror.state ∧ (failDrain s).mirror.replica = s.mirror.replica := by
  unfold failDrain
  (try dsimp only)
  all_goals ((repeat' split) <;> (try simp_all))

/-- Parts that `reportSpilledDrains` leaves unchanged of what it changes. -/
@[simp] theorem reportSpilledDrains_parts (es : List Entry) (s : State) :
    (reportSpilledDrains es s).mirror.state = s.mirror.state ∧
    (reportSpilledDrains es s).mirror.replica = s.mirror.replica := by
  unfold reportSpilledDrains
  (try dsimp only)
  all_goals ((repeat' split) <;> (try simp_all))

/-- Parts that `spillJournal` leaves unchanged of what it changes. -/
@[simp] theorem spillJournal_parts (s : State) :
    (spillJournal s).mirror.state = s.mirror.state ∧ (spillJournal s).mirror.replica = s.mirror.replica ∧
    (spillJournal s).journal.nextSeq = s.journal.nextSeq ∧ (spillJournal s).journal.lastAcked = s.journal.lastAcked := by
  unfold spillJournal
  (try dsimp only)
  all_goals ((repeat' split) <;> (try simp_all))

/-- Parts that `discardJournal` leaves unchanged of what it changes. -/
@[simp] theorem discardJournal_parts (s : State) :
    (discardJournal s).journal.nextSeq = s.journal.nextSeq ∧ (discardJournal s).journal.lastAcked = s.journal.lastAcked := by
  unfold discardJournal
  (try dsimp only)
  all_goals ((repeat' split) <;> (try simp_all))

/-- Parts that `cancelMarkRequest` leaves unchanged of what it changes. -/
@[simp] theorem cancelMarkRequest_parts (s : State) :
    (cancelMarkRequest s).mirror.state = s.mirror.state ∧ (cancelMarkRequest s).mirror.replica = s.mirror.replica := by
  unfold cancelMarkRequest
  (try dsimp only)
  all_goals ((repeat' split) <;> (try simp_all))

/-- Parts that `linkLossTransition` leaves unchanged of what it changes. -/
@[simp] theorem linkLossTransition_parts (s : State) :
    (linkLossTransition s).mirror.replica = s.mirror.replica ∧ (linkLossTransition s).mem.phase = s.mem.phase ∧
    (linkLossTransition s).mem.systemRequest = s.mem.systemRequest ∧
    (linkLossTransition s).mem.lastGranted = s.mem.lastGranted ∧
    (linkLossTransition s).journal.nextSeq = s.journal.nextSeq ∧
    (linkLossTransition s).journal.lastAcked = s.journal.lastAcked := by
  unfold linkLossTransition
  (try dsimp only)
  all_goals ((repeat' split) <;> (try simp_all))

/-- Parts that `originLeftUp` leaves unchanged of what it changes. -/
@[simp] theorem originLeftUp_parts (s : State) :
    (originLeftUp s).mirror.replica = s.mirror.replica ∧ (originLeftUp s).journal.nextSeq = s.journal.nextSeq ∧
    (originLeftUp s).journal.lastAcked = s.journal.lastAcked := by
  unfold originLeftUp
  (try dsimp only)
  all_goals ((repeat' split) <;> (try simp_all))

/-- Parts that `originReachedUp` leaves unchanged of what it changes. -/
@[simp] theorem originReachedUp_parts (s : State) :
    (originReachedUp s).mirror.replica = s.mirror.replica ∧ (originReachedUp s).mirror.pendingMark = s.mirror.pendingMark ∧
    (originReachedUp s).mirror.drain = s.mirror.drain ∧ (originReachedUp s).mirror.lastIssued = s.mirror.lastIssued ∧
    (originReachedUp s).mirror.lastAckedMark = s.mirror.lastAckedMark := by
  unfold originReachedUp
  (try dsimp only)
  all_goals ((repeat' split) <;> (try simp_all))

/-- Parts that `takeMarkReport` leaves unchanged of what it changes. -/
@[simp] theorem takeMarkReport_parts (r : MarkReport) (s : State) :
    (takeMarkReport r s).mirror.replica = s.mirror.replica ∧ (takeMarkReport r s).mirror.pendingMark = s.mirror.pendingMark ∧
    (takeMarkReport r s).mirror.drain = s.mirror.drain ∧ (takeMarkReport r s).mirror.lastIssued = s.mirror.lastIssued ∧
    (takeMarkReport r s).mirror.lastAckedMark = s.mirror.lastAckedMark := by
  unfold takeMarkReport
  (try dsimp only)
  all_goals ((repeat' split) <;> (try simp_all))

/-- Parts that `appendPendingMark` leaves unchanged of what it changes. -/
@[simp] theorem appendPendingMark_parts (s : State) :
    (appendPendingMark s).mirror.state = s.mirror.state ∧ (appendPendingMark s).mirror.replica = s.mirror.replica ∧
    (appendPendingMark s).journal.lastAcked = s.journal.lastAcked := by
  unfold appendPendingMark
  (try dsimp only)
  all_goals ((repeat' split) <;> (try simp_all))

/-- Parts that `acceptMark` leaves unchanged of what it changes. -/
@[simp] theorem acceptMark_parts (drain : Bool) (s : State) :
    (acceptMark drain s).mirror.state = s.mirror.state ∧ (acceptMark drain s).mirror.replica = s.mirror.replica := by
  unfold acceptMark
  (try dsimp only)
  all_goals ((repeat' split) <;> (try simp_all))

/-- Parts that `lowerDrained` leaves unchanged of what it changes. -/
@[simp] theorem lowerDrained_parts (s : State) :
    (lowerDrained s).mirror.state = s.mirror.state ∧ (lowerDrained s).mirror.replica = s.mirror.replica ∧
    (lowerDrained s).mirror.pendingMark = s.mirror.pendingMark ∧ (lowerDrained s).mirror.drain = s.mirror.drain := by
  unfold lowerDrained
  (try dsimp only)
  all_goals ((repeat' split) <;> (try simp_all))

/-- Parts that `acceptDrain` leaves unchanged of what it changes. -/
@[simp] theorem acceptDrain_parts (s : State) :
    (acceptDrain s).mirror.state = s.mirror.state ∧ (acceptDrain s).mirror.replica = s.mirror.replica := by
  unfold acceptDrain
  (try dsimp only)
  all_goals ((repeat' split) <;> (try simp_all))

/-- Parts that `completeDrain` leaves unchanged of what it changes. -/
@[simp] theorem completeDrain_parts (d : DrainMark) (s : State) :
    (completeDrain d s).mirror.state = s.mirror.state ∧ (completeDrain d s).mirror.replica = s.mirror.replica ∧
    (completeDrain d s).mirror.pendingMark = s.mirror.pendingMark := by
  unfold completeDrain
  (try dsimp only)
  all_goals ((repeat' split) <;> (try simp_all))

/-- Parts that `takeRemovedMark` leaves unchanged of what it changes. -/
@[simp] theorem takeRemovedMark_parts (m : RemovedMark) (s : State) :
    (takeRemovedMark s m).mirror.state = s.mirror.state ∧ (takeRemovedMark s m).mirror.replica = s.mirror.replica ∧
    (takeRemovedMark s m).mirror.pendingMark = s.mirror.pendingMark := by
  unfold takeRemovedMark
  (try dsimp only)
  all_goals ((repeat' split) <;> (try simp_all))

/-- Parts that `takeRemovedMarks` leaves unchanged of what it changes. -/
@[simp] theorem takeRemovedMarks_parts (marks : List RemovedMark) (s : State) :
    (takeRemovedMarks marks s).mirror.state = s.mirror.state ∧ (takeRemovedMarks marks s).mirror.replica = s.mirror.replica ∧
    (takeRemovedMarks marks s).mirror.pendingMark = s.mirror.pendingMark := by
  unfold takeRemovedMarks
  induction marks generalizing s with
  | nil => simp
  | cons m ms ih => simpa using ih (takeRemovedMark s m)

/-- Parts that `appendAndCheck` leaves unchanged of what it changes. -/
@[simp] theorem appendAndCheck_parts (s : State) :
    (appendAndCheck s).mirror.replica = s.mirror.replica := by
  unfold appendAndCheck
  (try dsimp only)
  all_goals ((repeat' split) <;> (try simp_all))

/-- Parts that `markPinRequest` leaves unchanged of what it changes. -/
@[simp] theorem markPinRequest_parts (s : State) :
    (markPinRequest s).mirror.state = s.mirror.state ∧ (markPinRequest s).mirror.replica = s.mirror.replica := by
  unfold markPinRequest
  (try dsimp only)
  all_goals ((repeat' split) <;> (try simp_all))

/-- Parts that `drainPinRequest` leaves unchanged of what it changes. -/
@[simp] theorem drainPinRequest_parts (s : State) :
    (drainPinRequest s).mirror.state = s.mirror.state ∧ (drainPinRequest s).mirror.replica = s.mirror.replica := by
  unfold drainPinRequest
  (try dsimp only)
  all_goals ((repeat' split) <;> (try simp_all))

/-- Parts that `mergeWrite` leaves unchanged of what it changes. -/
@[simp] theorem mergeWrite_parts (t : Transaction) (s : State) :
    (mergeWrite t s).journal.nextSeq = s.journal.nextSeq ∧ (mergeWrite t s).journal.lastAcked = s.journal.lastAcked := by
  unfold mergeWrite
  (try dsimp only)
  all_goals ((repeat' split) <;> (try simp_all))

/-- Parts that `appendWrite` leaves unchanged of what it changes. -/
@[simp] theorem appendWrite_parts (t : Transaction) (s : State) :
    (appendWrite t s).journal.lastAcked = s.journal.lastAcked := by
  unfold appendWrite
  (try dsimp only)
  all_goals ((repeat' split) <;> (try simp_all))

/-- Parts that `markWrite` leaves unchanged of what it changes. -/
@[simp] theorem markWrite_parts (t : Transaction) (s : State) :
    (markWrite t s).copy.buffers = s.copy.buffers ∧ (markWrite t s).copy.records = s.copy.records ∧
    (markWrite t s).copy.outstanding = s.copy.outstanding ∧ (markWrite t s).copy.paused = s.copy.paused ∧
    (markWrite t s).copy.pacingTimer = s.copy.pacingTimer ∧ (markWrite t s).copy.faultBlock = s.copy.faultBlock ∧
    (markWrite t s).reports.mirrorAcks = s.reports.mirrorAcks ∧
    (markWrite t s).reports.captureAcks = s.reports.captureAcks := by
  unfold markWrite
  (try dsimp only)
  all_goals ((repeat' split) <;> (try simp_all))

/-- Parts that `releaseSlot` leaves unchanged of what it changes. -/
@[simp] theorem releaseSlot_parts (s : State) :
    (releaseSlot s).rx.phase = s.rx.phase ∧ (releaseSlot s).rx.runReported = s.rx.runReported := by
  unfold releaseSlot
  (try dsimp only)
  all_goals ((repeat' split) <;> (try simp_all))

/-- Parts that `flushSlots` leaves unchanged of what it changes. -/
@[simp] theorem flushSlots_parts (s : State) :
    (flushSlots s).rx.phase = s.rx.phase ∧ (flushSlots s).rx.runReported = s.rx.runReported := by
  unfold flushSlots
  (try dsimp only)
  all_goals ((repeat' split) <;> (try simp_all))

/-- Parts that `offerAck` leaves unchanged of what it changes. -/
@[simp] theorem offerAck_parts (s : State) :
    (offerAck s).tx.buffer = s.tx.buffer ∧ (offerAck s).tx.line = s.tx.line ∧
    (offerAck s).tx.breakPending = s.tx.breakPending ∧ (offerAck s).apply.expected = s.apply.expected ∧
    (offerAck s).apply.fresh = s.apply.fresh ∧ (offerAck s).apply.coherent = s.apply.coherent ∧
    (offerAck s).apply.fault = s.apply.fault ∧ (offerAck s).apply.lastMark = s.apply.lastMark ∧
    (offerAck s).apply.lastConsistent = s.apply.lastConsistent ∧ (offerAck s).apply.phase = s.apply.phase ∧
    (offerAck s).apply.nextLine = s.apply.nextLine := by
  unfold offerAck
  (try dsimp only)
  all_goals ((repeat' split) <;> (try simp_all))

/-- Parts that `offerNak` leaves unchanged of what it changes. -/
@[simp] theorem offerNak_parts (s : State) :
    (offerNak s).tx.buffer = s.tx.buffer ∧ (offerNak s).tx.line = s.tx.line ∧
    (offerNak s).tx.breakPending = s.tx.breakPending ∧ (offerNak s).apply.expected = s.apply.expected ∧
    (offerNak s).apply.fresh = s.apply.fresh ∧ (offerNak s).apply.coherent = s.apply.coherent ∧
    (offerNak s).apply.fault = s.apply.fault ∧ (offerNak s).apply.lastMark = s.apply.lastMark ∧
    (offerNak s).apply.lastConsistent = s.apply.lastConsistent ∧ (offerNak s).apply.phase = s.apply.phase ∧
    (offerNak s).apply.nextLine = s.apply.nextLine := by
  unfold offerNak
  (try dsimp only)
  all_goals ((repeat' split) <;> (try simp_all))

/-- Parts that `applyEnd` leaves unchanged of what it changes. -/
@[simp] theorem applyEnd_parts (s : State) :
    (applyEnd s).rx.phase = s.rx.phase ∧ (applyEnd s).rx.runReported = s.rx.runReported ∧
    (applyEnd s).tx.buffer = s.tx.buffer ∧
    (applyEnd s).tx.line = s.tx.line ∧ (applyEnd s).tx.breakPending = s.tx.breakPending := by
  unfold applyEnd
  (try dsimp only)
  all_goals ((repeat' split) <;> (try simp_all))

/-- Parts that `applyMark` leaves unchanged of what it changes. -/
@[simp] theorem applyMark_parts (number : MarkNo) (consistent : Bool) (s : State) :
    (applyMark number consistent s).rx.phase = s.rx.phase ∧
    (applyMark number consistent s).rx.runReported = s.rx.runReported ∧ (applyMark number consistent s).tx.buffer = s.tx.buffer ∧
    (applyMark number consistent s).tx.line = s.tx.line ∧
    (applyMark number consistent s).tx.breakPending = s.tx.breakPending := by
  unfold applyMark
  (try dsimp only)
  all_goals ((repeat' split) <;> (try simp_all))

/-- Parts that `applyPoisoned` leaves unchanged of what it changes. -/
@[simp] theorem applyPoisoned_parts (s : State) :
    (applyPoisoned s).rx.phase = s.rx.phase ∧ (applyPoisoned s).rx.runReported = s.rx.runReported ∧
    (applyPoisoned s).tx.buffer = s.tx.buffer ∧
    (applyPoisoned s).tx.line = s.tx.line ∧ (applyPoisoned s).tx.breakPending = s.tx.breakPending := by
  unfold applyPoisoned
  (try dsimp only)
  all_goals ((repeat' split) <;> (try simp_all))

/-- Parts that `enterWriting` leaves unchanged of what it changes. -/
@[simp] theorem enterWriting_parts (s : State) :
    (enterWriting s).apply.expected = s.apply.expected ∧ (enterWriting s).apply.fresh = s.apply.fresh ∧
    (enterWriting s).apply.coherent = s.apply.coherent ∧ (enterWriting s).apply.fault = s.apply.fault ∧
    (enterWriting s).apply.lastMark = s.apply.lastMark ∧ (enterWriting s).apply.lastConsistent = s.apply.lastConsistent ∧
    (enterWriting s).apply.ackCount = s.apply.ackCount ∧ (enterWriting s).apply.lastNaked = s.apply.lastNaked ∧
    (enterWriting s).apply.lastAckSent = s.apply.lastAckSent := by
  unfold enterWriting
  (try dsimp only)
  all_goals ((repeat' split) <;> (try simp_all))

/-- Parts that `applyFrame` leaves unchanged of what it changes. -/
@[simp] theorem applyFrame_parts (f : Frame) (s : State) :
    (applyFrame f s).rx.phase = s.rx.phase ∧ (applyFrame f s).rx.runReported = s.rx.runReported ∧
    (applyFrame f s).tx.buffer = s.tx.buffer ∧
    (applyFrame f s).tx.line = s.tx.line ∧ (applyFrame f s).tx.breakPending = s.tx.breakPending := by
  unfold applyFrame
  (try dsimp only)
  all_goals ((repeat' split) <;> (try simp_all))

/-- Parts that `takeGap` leaves unchanged of what it changes. -/
@[simp] theorem takeGap_parts (s : State) :
    (takeGap s).rx.phase = s.rx.phase ∧ (takeGap s).rx.runReported = s.rx.runReported ∧ (takeGap s).tx.buffer = s.tx.buffer ∧
    (takeGap s).tx.line = s.tx.line ∧ (takeGap s).tx.breakPending = s.tx.breakPending := by
  unfold takeGap
  (try dsimp only)
  all_goals ((repeat' split) <;> (try simp_all))

/-- Parts that `judgeFrame` leaves unchanged of what it changes. -/
@[simp] theorem judgeFrame_parts (f : Frame) (s : State) :
    (judgeFrame f s).rx.phase = s.rx.phase ∧ (judgeFrame f s).rx.runReported = s.rx.runReported ∧
    (judgeFrame f s).tx.buffer = s.tx.buffer ∧
    (judgeFrame f s).tx.line = s.tx.line ∧ (judgeFrame f s).tx.breakPending = s.tx.breakPending := by
  unfold judgeFrame
  (try dsimp only)
  all_goals ((repeat' split) <;> (try simp_all))

/-- Parts that `advanceApply` leaves unchanged of what it changes. -/
@[simp] theorem advanceApply_parts (s : State) :
    (advanceApply s).rx.phase = s.rx.phase ∧ (advanceApply s).rx.runReported = s.rx.runReported ∧
    (advanceApply s).tx.buffer = s.tx.buffer ∧
    (advanceApply s).tx.line = s.tx.line ∧ (advanceApply s).tx.breakPending = s.tx.breakPending := by
  unfold advanceApply
  (try dsimp only)
  all_goals ((repeat' split) <;> (try simp_all))

/-- Parts that `applyAnswer` leaves unchanged of what it changes. -/
@[simp] theorem applyAnswer_parts (answer : MemAnswer) (s : State) :
    (applyAnswer answer s).rx.phase = s.rx.phase ∧ (applyAnswer answer s).rx.runReported = s.rx.runReported ∧
    (applyAnswer answer s).tx.buffer = s.tx.buffer ∧
    (applyAnswer answer s).tx.line = s.tx.line ∧ (applyAnswer answer s).tx.breakPending = s.tx.breakPending := by
  unfold applyAnswer
  (try dsimp only)
  all_goals ((repeat' split) <;> (try simp_all))

/-- Parts that `abandonFrame` leaves unchanged of what it changes. -/
@[simp] theorem abandonFrame_parts (s : State) :
    (abandonFrame s).rx.phase = s.rx.phase ∧ (abandonFrame s).rx.runReported = s.rx.runReported ∧
    (abandonFrame s).apply.expected = s.apply.expected ∧
    (abandonFrame s).apply.fresh = s.apply.fresh ∧ (abandonFrame s).apply.coherent = s.apply.coherent ∧
    (abandonFrame s).apply.fault = s.apply.fault ∧ (abandonFrame s).apply.lastMark = s.apply.lastMark ∧
    (abandonFrame s).apply.lastConsistent = s.apply.lastConsistent ∧ (abandonFrame s).apply.ackCount = s.apply.ackCount ∧
    (abandonFrame s).apply.lastNaked = s.apply.lastNaked ∧ (abandonFrame s).apply.lastAckSent = s.apply.lastAckSent ∧
    (abandonFrame s).mem.phase = s.mem.phase ∧ (abandonFrame s).mem.systemRequest = s.mem.systemRequest ∧
    (abandonFrame s).mem.lastGranted = s.mem.lastGranted := by
  unfold abandonFrame
  (try dsimp only)
  all_goals ((repeat' split) <;> (try simp_all))

/-- Parts that `replicaLeftUp` leaves unchanged of what it changes. -/
@[simp] theorem replicaLeftUp_parts (s : State) :
    (replicaLeftUp s).rx.phase = s.rx.phase ∧ (replicaLeftUp s).rx.runReported = s.rx.runReported ∧
    (replicaLeftUp s).mirror.state = s.mirror.state ∧
    (replicaLeftUp s).mirror.pendingMark = s.mirror.pendingMark ∧ (replicaLeftUp s).mirror.drain = s.mirror.drain ∧
    (replicaLeftUp s).mirror.incomplete = s.mirror.incomplete ∧ (replicaLeftUp s).apply.expected = s.apply.expected ∧
    (replicaLeftUp s).apply.fresh = s.apply.fresh ∧ (replicaLeftUp s).apply.coherent = s.apply.coherent ∧
    (replicaLeftUp s).apply.fault = s.apply.fault ∧ (replicaLeftUp s).apply.lastMark = s.apply.lastMark ∧
    (replicaLeftUp s).apply.lastConsistent = s.apply.lastConsistent ∧ (replicaLeftUp s).apply.ackCount = s.apply.ackCount ∧
    (replicaLeftUp s).apply.lastNaked = s.apply.lastNaked ∧ (replicaLeftUp s).apply.lastAckSent = s.apply.lastAckSent ∧
    (replicaLeftUp s).mem.phase = s.mem.phase ∧ (replicaLeftUp s).mem.systemRequest = s.mem.systemRequest ∧
    (replicaLeftUp s).mem.lastGranted = s.mem.lastGranted := by
  unfold replicaLeftUp
  (try dsimp only)
  all_goals ((repeat' split) <;> (try simp_all))

/-- Parts that `replicaReachedUp` leaves unchanged of what it changes. -/
@[simp] theorem replicaReachedUp_parts (s : State) :
    (replicaReachedUp s).mirror.state = s.mirror.state ∧ (replicaReachedUp s).mirror.pendingMark = s.mirror.pendingMark ∧
    (replicaReachedUp s).mirror.drain = s.mirror.drain ∧ (replicaReachedUp s).mirror.incomplete = s.mirror.incomplete := by
  unfold replicaReachedUp
  (try dsimp only)
  all_goals ((repeat' split) <;> (try simp_all))

/-- Parts that `resetAckState` leaves unchanged of what it changes. -/
@[simp] theorem resetAckState_parts (s : State) :
    (resetAckState s).apply.expected = s.apply.expected ∧ (resetAckState s).apply.fresh = s.apply.fresh ∧
    (resetAckState s).apply.coherent = s.apply.coherent ∧ (resetAckState s).apply.fault = s.apply.fault ∧
    (resetAckState s).apply.lastMark = s.apply.lastMark ∧ (resetAckState s).apply.lastConsistent = s.apply.lastConsistent ∧
    (resetAckState s).apply.phase = s.apply.phase ∧ (resetAckState s).apply.nextLine = s.apply.nextLine := by
  unfold resetAckState
  (try dsimp only)
  all_goals ((repeat' split) <;> (try simp_all))

/-- Parts that `offerHello` leaves unchanged of what it changes. -/
@[simp] theorem offerHello_parts (s : State) :
    (offerHello s).tx.buffer = s.tx.buffer ∧ (offerHello s).tx.line = s.tx.line ∧
    (offerHello s).tx.breakPending = s.tx.breakPending := by
  unfold offerHello
  (try dsimp only)
  all_goals ((repeat' split) <;> (try simp_all))

/-- Parts that `enterConnecting` leaves unchanged of what it changes. -/
@[simp] theorem enterConnecting_parts (s : State) :
    (enterConnecting s).tx.buffer = s.tx.buffer ∧ (enterConnecting s).tx.line = s.tx.line ∧
    (enterConnecting s).tx.breakPending = s.tx.breakPending := by
  unfold enterConnecting
  (try dsimp only)
  all_goals ((repeat' split) <;> (try simp_all))

/-- Parts that `stopSession` leaves unchanged of what it changes. -/
@[simp] theorem stopSession_parts (s : State) :
    (stopSession s).link.state = s.link.state ∧ (stopSession s).link.session = s.link.session ∧
    (stopSession s).link.partnerFresh = s.link.partnerFresh := by
  unfold stopSession
  (try dsimp only)
  all_goals ((repeat' split) <;> (try simp_all))

/-- Parts that `clearReplicaSession` leaves unchanged of what it changes. -/
@[simp] theorem clearReplicaSession_parts (s : State) :
    (clearReplicaSession s).link.silenceTimer = s.link.silenceTimer ∧ (clearReplicaSession s).link.state = s.link.state := by
  unfold clearReplicaSession
  (try dsimp only)
  all_goals ((repeat' split) <;> (try simp_all))

/-- Parts that `noteValidFrame` leaves unchanged of what it changes. -/
@[simp] theorem noteValidFrame_parts (session : SessionNo) (s : State) :
    (noteValidFrame session s).link.state = s.link.state ∧ (noteValidFrame session s).link.session = s.link.session ∧
    (noteValidFrame session s).link.partnerFresh = s.link.partnerFresh := by
  unfold noteValidFrame
  (try dsimp only)
  all_goals ((repeat' split) <;> (try simp_all))

/-- Parts that `reportAcknowledged` leaves unchanged of what it changes. -/
@[simp] theorem reportAcknowledged_parts (removed : List Entry) (s : State) :
    (reportAcknowledged removed s).link.state = s.link.state ∧ (reportAcknowledged removed s).link.session = s.link.session ∧
    (reportAcknowledged removed s).link.partnerFresh = s.link.partnerFresh ∧
    (reportAcknowledged removed s).link.silenceTimer = s.link.silenceTimer ∧
    (reportAcknowledged removed s).reports.marks = s.reports.marks := by
  unfold reportAcknowledged
  (try dsimp only)
  all_goals ((repeat' split) <;> (try simp_all))

/-- Parts that `acknowledgeThrough` leaves unchanged of what it changes. -/
@[simp] theorem acknowledgeThrough_parts (n : Seq) (s : State) :
    (acknowledgeThrough n s).link.state = s.link.state ∧ (acknowledgeThrough n s).link.session = s.link.session ∧
    (acknowledgeThrough n s).link.partnerFresh = s.link.partnerFresh ∧
    (acknowledgeThrough n s).link.silenceTimer = s.link.silenceTimer ∧
    (acknowledgeThrough n s).reports.marks = s.reports.marks ∧
    (acknowledgeThrough n s).journal.nextSeq = s.journal.nextSeq := by
  unfold acknowledgeThrough
  (try dsimp only)
  all_goals ((repeat' split) <;> (try simp_all))

/-- Parts that `rewindTo` leaves unchanged of what it changes. -/
@[simp] theorem rewindTo_parts (target : Seq) (s : State) :
    (rewindTo target s).link.state = s.link.state ∧ (rewindTo target s).link.session = s.link.session ∧
    (rewindTo target s).link.partnerFresh = s.link.partnerFresh ∧
    (rewindTo target s).link.silenceTimer = s.link.silenceTimer ∧
    (rewindTo target s).tx.slot = s.tx.slot ∧ (rewindTo target s).tx.line = s.tx.line ∧
    (rewindTo target s).tx.breakPending = s.tx.breakPending ∧ (rewindTo target s).journal.entries = s.journal.entries ∧
    (rewindTo target s).journal.nextSeq = s.journal.nextSeq ∧
    (rewindTo target s).journal.lastAcked = s.journal.lastAcked := by
  unfold rewindTo
  (try dsimp only)
  all_goals ((repeat' split) <;> (try simp_all))

/-- Parts that `reportReplicaFault` leaves unchanged of what it changes. -/
@[simp] theorem reportReplicaFault_parts (fault : Bool) (s : State) :
    (reportReplicaFault fault s).mirror.state = s.mirror.state ∧
    (reportReplicaFault fault s).mirror.replica = s.mirror.replica ∧
    (reportReplicaFault fault s).mirror.pendingMark = s.mirror.pendingMark ∧
    (reportReplicaFault fault s).mirror.drain = s.mirror.drain := by
  unfold reportReplicaFault
  (try dsimp only)
  all_goals ((repeat' split) <;> (try simp_all))

/-- Parts that `takeAck` leaves unchanged of what it changes. -/
@[simp] theorem takeAck_parts (f : Frame) (fault : Bool) (s : State) :
    (takeAck f fault s).link.state = s.link.state ∧ (takeAck f fault s).link.session = s.link.session ∧
    (takeAck f fault s).link.partnerFresh = s.link.partnerFresh ∧ (takeAck f fault s).mirror.state = s.mirror.state ∧
    (takeAck f fault s).mirror.replica = s.mirror.replica ∧ (takeAck f fault s).mirror.pendingMark = s.mirror.pendingMark ∧
    (takeAck f fault s).mirror.drain = s.mirror.drain ∧ (takeAck f fault s).journal.nextSeq = s.journal.nextSeq := by
  unfold takeAck
  (try dsimp only)
  all_goals ((repeat' split) <;> (try simp_all))

/-- Parts that `takeNak` leaves unchanged of what it changes. -/
@[simp] theorem takeNak_parts (f : Frame) (fault : Bool) (s : State) :
    (takeNak f fault s).link.state = s.link.state ∧ (takeNak f fault s).link.session = s.link.session ∧
    (takeNak f fault s).link.partnerFresh = s.link.partnerFresh ∧ (takeNak f fault s).tx.slot = s.tx.slot ∧
    (takeNak f fault s).tx.line = s.tx.line ∧ (takeNak f fault s).tx.breakPending = s.tx.breakPending ∧
    (takeNak f fault s).mirror.state = s.mirror.state ∧ (takeNak f fault s).mirror.replica = s.mirror.replica ∧
    (takeNak f fault s).mirror.pendingMark = s.mirror.pendingMark ∧ (takeNak f fault s).mirror.drain = s.mirror.drain ∧
    (takeNak f fault s).journal.nextSeq = s.journal.nextSeq := by
  unfold takeNak
  (try dsimp only)
  all_goals ((repeat' split) <;> (try simp_all))

/-- Parts that `answerHello` leaves unchanged of what it changes. -/
@[simp] theorem answerHello_parts (f : Frame) (s : State) :
    (answerHello f s).rx.phase = s.rx.phase ∧ (answerHello f s).rx.runReported = s.rx.runReported ∧
    (answerHello f s).tx.buffer = s.tx.buffer ∧
    (answerHello f s).tx.line = s.tx.line ∧ (answerHello f s).tx.breakPending = s.tx.breakPending ∧
    (answerHello f s).mirror.state = s.mirror.state ∧ (answerHello f s).mirror.pendingMark = s.mirror.pendingMark ∧
    (answerHello f s).mirror.drain = s.mirror.drain ∧ (answerHello f s).mirror.incomplete = s.mirror.incomplete := by
  unfold answerHello
  (try dsimp only)
  all_goals ((repeat' split) <;> (try simp_all))

/-- Parts that `takeHello` leaves unchanged of what it changes. -/
@[simp] theorem takeHello_parts (f : Frame) (s : State) :
    (takeHello f s).rx.phase = s.rx.phase ∧ (takeHello f s).rx.runReported = s.rx.runReported ∧
    (takeHello f s).tx.buffer = s.tx.buffer ∧
    (takeHello f s).tx.line = s.tx.line ∧ (takeHello f s).tx.breakPending = s.tx.breakPending ∧
    (takeHello f s).mirror.state = s.mirror.state ∧ (takeHello f s).mirror.pendingMark = s.mirror.pendingMark ∧
    (takeHello f s).mirror.drain = s.mirror.drain ∧ (takeHello f s).mirror.incomplete = s.mirror.incomplete := by
  unfold takeHello
  (try dsimp only)
  all_goals ((repeat' split) <;> (try simp_all))

/-- Parts that `ackTimeoutStep` leaves unchanged of what it changes. -/
@[simp] theorem ackTimeoutStep_parts (s : State) :
    (ackTimeoutStep s).link.state = s.link.state ∧ (ackTimeoutStep s).link.session = s.link.session ∧
    (ackTimeoutStep s).link.partnerFresh = s.link.partnerFresh ∧ (ackTimeoutStep s).link.silenceTimer = s.link.silenceTimer ∧
    (ackTimeoutStep s).tx.slot = s.tx.slot ∧ (ackTimeoutStep s).tx.line = s.tx.line ∧
    (ackTimeoutStep s).tx.breakPending = s.tx.breakPending := by
  unfold ackTimeoutStep
  (try dsimp only)
  all_goals ((repeat' split) <;> (try simp_all))

/-- What `framingToHunting` makes of the receiver. -/
@[simp] theorem framingToHunting_parts (s : State) :
    (framingToHunting s).rx.slots = s.rx.slots ∧ (framingToHunting s).rx.runReported = s.rx.runReported ∧
    (framingToHunting s).rx.phase = .hunting := by
  unfold framingToHunting
  (try dsimp only)
  all_goals ((repeat' split) <;> (try simp_all))

/-- Parts that `placeFrame` leaves unchanged of what it changes. -/
@[simp] theorem placeFrame_parts (f : Frame) (bytes : List Byte) (s : State) :
    (placeFrame f bytes s).rx.phase = s.rx.phase ∧ (placeFrame f bytes s).rx.runReported = s.rx.runReported := by
  unfold placeFrame
  (try dsimp only)
  all_goals ((repeat' split) <;> (try simp_all))

/-- Parts that `stopMirroring` leaves unchanged of what it changes. -/
@[simp] theorem stopMirroring_parts (s : State) :
    (stopMirroring s).mirror.replica = s.mirror.replica := by
  unfold stopMirroring
  (try dsimp only)
  all_goals ((repeat' split) <;> (try simp_all))

/-- Parts that `reseed` leaves unchanged of what it changes. -/
@[simp] theorem reseed_parts (s : State) :
    (reseed s).mirror.replica = s.mirror.replica ∧ (reseed s).mirror.pendingMark = s.mirror.pendingMark ∧
    (reseed s).mirror.drain = s.mirror.drain ∧ (reseed s).mirror.lastIssued = s.mirror.lastIssued ∧
    (reseed s).mirror.lastAckedMark = s.mirror.lastAckedMark := by
  unfold reseed
  (try dsimp only)
  all_goals ((repeat' split) <;> (try simp_all))

/-- Parts that `startReplica` leaves unchanged of what it changes. -/
@[simp] theorem startReplica_parts (s : State) :
    (startReplica s).mirror.state = s.mirror.state ∧ (startReplica s).mirror.pendingMark = s.mirror.pendingMark ∧
    (startReplica s).mirror.drain = s.mirror.drain ∧ (startReplica s).mirror.incomplete = s.mirror.incomplete := by
  unfold startReplica
  (try dsimp only)
  all_goals ((repeat' split) <;> (try simp_all))


end Sys2Proof.Machine
end

