-- ==== Sys2Proof/Laws/ServicePort.lean ====
section
/-! SUPPORT. What the transactions of the service port come to, byte for byte (R181 to R183). -/

namespace Sys2Proof.Machine

/-- The value that the DATA bytes of a WRITE spell, least significant byte first (R181). -/
theorem word_of_bytes (b0 b1 b2 b3 : Byte) :
    BitVec.ofNat 32 (ofLeBytes [b0, b1, b2, b3]) = (b3 ++ (b2 ++ (b1 ++ b0)) : BitVec 32) := by
  have h0 := b0.isLt
  have h1 := b1.isLt
  have h2 := b2.isLt
  have h3 := b3.isLt
  apply BitVec.eq_of_toNat_eq
  have e1 : b1.toNat <<< 8 ||| b0.toNat = b0.toNat + 256 * b1.toNat := by
    rw [← Nat.shiftLeft_add_eq_or_of_lt h0, Nat.shiftLeft_eq]
    omega
  have e2 : b2.toNat <<< (8 + 8) ||| (b0.toNat + 256 * b1.toNat) = b0.toNat + 256 * (b1.toNat + 256 * b2.toNat) := by
    rw [← Nat.shiftLeft_add_eq_or_of_lt (by omega), Nat.shiftLeft_eq]
    omega
  have e3 : b3.toNat <<< (8 + (8 + 8)) ||| (b0.toNat + 256 * (b1.toNat + 256 * b2.toNat)) =
      b0.toNat + 256 * (b1.toNat + 256 * (b2.toNat + 256 * b3.toNat)) := by
    rw [← Nat.shiftLeft_add_eq_or_of_lt (by omega), Nat.shiftLeft_eq]
    omega
  simp only [ofLeBytes, BitVec.toNat_ofNat, BitVec.toNat_append, e1, e2, e3]
  omega

/-- What SOFT_RESET keeps whether it is waiting or not (R188). -/
@[simp] theorem takeSoftReset_keeps (pins : RequestPins) (selected : Bool) (s : State) :
    (takeSoftReset pins selected s).role = s.role ∧ (takeSoftReset pins selected s).porst = s.porst ∧
    (takeSoftReset pins selected s).srst = s.srst ∧ (takeSoftReset pins selected s).choices = s.choices ∧
    (takeSoftReset pins selected s).pending = s.pending := by
  unfold takeSoftReset
  split <;> simp

/-- After the moment of a SOFT_RESET none waits (R188). -/
@[simp] theorem takeSoftReset_resetPending (pins : RequestPins) (selected : Bool) (s : State) :
    (takeSoftReset pins selected s).sp.resetPending = false := by
  unfold takeSoftReset
  split
  · rfl
  · simp_all

/-- With no SOFT_RESET waiting the end of a transaction deselects the port and nothing else (R181). -/
theorem endTransaction_ready (s : State) (hr : s.sp.resetPending = false) : endTransaction s = deselectPort s := by
  simp [endTransaction, takeSoftReset, hr]

/-- What the end of a transaction keeps. -/
@[simp] theorem endTransaction_keeps (s : State) :
    (endTransaction s).role = s.role ∧ (endTransaction s).porst = s.porst ∧ (endTransaction s).srst = s.srst ∧
    (endTransaction s).choices = s.choices ∧ (endTransaction s).pending = s.pending := by
  simp [endTransaction]

/-- A served command runs on the port at the OPCODE byte of its own transaction. -/
theorem whenServed_eq (f : State → State) (s : State) (hp : s.porst = false) (hi : s.sp.phase ≠ .ignored)
    (hr : s.sp.resetPending = false) : whenServed f s = f (selectPort (deselectPort s)) := by
  simp [whenServed, endTransaction_ready s hr, hp, hi]

/-- While a SOFT_RESET waits, a service command finds the part reset by the end of the transaction before, or by the
end of its RESPONSE byte, whichever came first (R188). -/
theorem whenServed_pending (f : State → State) (selected : Bool) (s : State) (hp : s.porst = false)
    (hi : s.sp.phase ≠ .ignored) (hr : s.sp.resetPending = true) :
    whenServed f s = whenServed f (takeSoftReset ⟨s.markPin, s.drainPin⟩ selected s) := by
  cases selected <;>
    simp [whenServed, endTransaction, takeSoftReset, hp, hi, hr, State.reset, ServicePort.reset, deselectPort, selectPort]

/-- Past a SOFT_RESET taken with SPSEL asserted the port is in DONE: SPDO carries 0 and clocks change nothing
(R181, R188). -/
theorem takeSoftReset_done (pins : RequestPins) (s : State) (hr : s.sp.resetPending = true) :
    (takeSoftReset pins true s).sp.spdo = some 0 ∧
    ∀ b, clockByte b (takeSoftReset pins true s) = takeSoftReset pins true s := by
  simp [takeSoftReset, hr, clockByte, ServicePort.spdo]

/-- A service command changes nothing of an ignored transaction but its end (R193). -/
theorem whenServed_ignored (f : State → State) (s : State) (hp : s.porst = false) (hi : s.sp.phase = .ignored) :
    whenServed f s = deselectPort s := by
  simp [whenServed, hp, hi]

/-- The port's own phase and outputs show in no register. -/
theorem readRegister_sp (index : Byte) (p : ServicePort) (s : State) :
    readRegister index { s with sp := p } = readRegister index s := rfl

/-- A transaction is taken at the end of its INDEX byte by the state as it then stands (R182). -/
theorem takeAtIndexByte_phase (opcode index : Byte) (phase : ServicePhase) (s : State) :
    takeAtIndexByte opcode index { s with sp := { s.sp with phase := phase } } = takeAtIndexByte opcode index s := by
  unfold takeAtIndexByte
  rw [readRegister_sp]

/-- OPCODE and INDEX bytes bring a transaction to the end of its INDEX byte (R181, R182). -/
theorem clockHead_selected (opcode index : Byte) (s : State) :
    clockHead opcode index (selectPort s) = takeAtIndexByte opcode index (selectPort s) :=
  takeAtIndexByte_phase opcode index (.index opcode) (selectPort s)

/-- A WRITE that loses SPSEL before its fourth DATA byte leaves the port deselected and all else as it was (R183). -/
theorem writeTransaction_short (index : Byte) (data : List Byte) (s : State) (h : data.length < 4) :
    writeTransaction index data (selectPort s) = deselectPort (selectPort s) := by
  match data, h with
  | [], _ | [_], _ | [_, _], _ | [_, _, _], _ => rfl

/-- A WRITE of four DATA bytes is taken with its value (R183). -/
theorem writeTransaction_whole (index b0 b1 b2 b3 : Byte) (s : State) :
    writeTransaction index [b0, b1, b2, b3] (selectPort s) = writeRegister index (b3 ++ (b2 ++ (b1 ++ b0)))
      { s with sp := { s.sp with phase := .data 2 index [b0, b1, b2], dataOut := 0, response := none } } := by
  rw [← word_of_bytes]
  rfl

end Sys2Proof.Machine
end

