-- ==== Sys2Proof/Laws/Session.lean ====
section
/-! SUPPORT. What the link-loss transition and the moves of the link do (R103, R158, R160). -/

namespace Sys2Proof.Machine

/-! ### The spill and the link-loss transition -/

theorem reportSpilledDrains_mirror (es : List Entry) (s : State) :
    (reportSpilledDrains es s).mirror =
      { s.mirror with drain := if es.any (fun e => e.isDrainMark) then .clear else s.mirror.drain } := by
  unfold reportSpilledDrains; split <;> simp

/-- The spill empties the journal and keeps its counters (R25). -/
@[simp] theorem spillJournal_journal (s : State) : (spillJournal s).journal = s.journal.emptied := by
  simp [spillJournal]

/-- The spill marks the blocks of the WRITE and BLOCK entries (R25). -/
@[simp] theorem spillJournal_dirty (s : State) : (spillJournal s).dirty = spillMarks s.journal.entries s.dirty := by
  simp [spillJournal]

/-- The spill frees the copy buffers of the BLOCK entries (R25). -/
@[simp] theorem spillJournal_copy (s : State) : (spillJournal s).copy = s.copy.freeBuffersOf s.journal.entries := by
  simp [spillJournal]

/-- The spill empties the data holding buffer (R25). -/
@[simp] theorem spillJournal_tx (s : State) : (spillJournal s).tx = { s.tx with buffer := none } := by
  simp [spillJournal]

/-- Of the mirror controller's items the spill changes the drain alone (R25). -/
theorem spillJournal_mirror (s : State) :
    (spillJournal s).mirror =
      { s.mirror with drain := if s.journal.entries.any (fun e => e.isDrainMark) then .clear else s.mirror.drain } := by
  simp [spillJournal, reportSpilledDrains_mirror]

theorem failDrain_mirror (s : State) : (failDrain s).mirror = { s.mirror with drain := .clear } := by
  obtain ⟨⟩ := s
  rename_i mirror _ _ _ _ _ _ _
  obtain ⟨⟩ := mirror
  rename_i drain _ _
  cases drain <;> rfl

theorem releaseIntoMap_sys (s : State) :
    (releaseIntoMap s).sys = match s.sys.phase with
      | .held t => ⟨.complete t .ok 0, none⟩
      | _ => s.sys := by
  unfold releaseIntoMap; split <;> simp_all

theorem releaseIntoMap_dirty (s : State) :
    (releaseIntoMap s).dirty = match s.sys.phase with
      | .held t => s.dirty.mark (blockOf t.address)
      | _ => s.dirty := by
  unfold releaseIntoMap; split <;> simp_all

/-- The link-loss transition empties the journal (R103). -/
@[simp] theorem linkLossTransition_journal (s : State) : (linkLossTransition s).journal = s.journal.emptied := by
  simp [linkLossTransition]

/-- The link-loss transition ends in TRACKING with no pending mark and no pending drain, and keeps the mirror
controller's other items (R103). -/
@[simp] theorem linkLossTransition_mirror (s : State) :
    (linkLossTransition s).mirror = { s.mirror with state := .tracking, pendingMark := none, drain := .clear } := by
  simp [linkLossTransition, failDrain_mirror, cancelMarkRequest, spillJournal_mirror]

@[simp] theorem linkLossTransition_tx (s : State) : (linkLossTransition s).tx = { s.tx with buffer := none } := by
  simp [linkLossTransition]

/-- The link-loss transition completes a held write OK (R56, R103). -/
theorem linkLossTransition_sys (s : State) :
    (linkLossTransition s).sys = match s.sys.phase with
      | .held t => ⟨.complete t .ok 0, none⟩
      | _ => s.sys := by
  simp [linkLossTransition, releaseIntoMap_sys]

/-- The link-loss transition marks every journaled block and a held write's block (R25, R56, R103). -/
theorem linkLossTransition_dirty (s : State) :
    (linkLossTransition s).dirty = match s.sys.phase with
      | .held t => (spillMarks s.journal.entries s.dirty).mark (blockOf t.address)
      | _ => spillMarks s.journal.entries s.dirty := by
  simp [linkLossTransition, releaseIntoMap_dirty]

/-- The link-loss transition frees the buffers and removes the records (R94, R103). -/
theorem linkLossTransition_copy (s : State) :
    (linkLossTransition s).copy = { s.copy.freeBuffersOf s.journal.entries with
      records := []
      pacingTimer := none
      outstanding := if s.mem.engineRequest.isSome then none else (s.copy.freeBuffersOf s.journal.entries).outstanding } := by
  simp [linkLossTransition]

@[simp] theorem linkLossTransition_mem (s : State) : (linkLossTransition s).mem = s.mem.withdrawEngine := by
  simp [linkLossTransition]

theorem originLeftUp_eq (s : State) : originLeftUp s = if s.streaming then linkLossTransition s else s := by
  unfold originLeftUp State.streaming
  cases h : s.mirror.state <;> simp

/-! ### Leaving UP -/

theorem reportLeftUp_phase (s : State) : (reportLeftUp s).rx.phase = s.rx.phase := by
  unfold reportLeftUp
  split
  · simp
  · unfold replicaLeftUp
    split
    · unfold flushSlots abandonFrame releaseSlot
      (repeat' split) <;> rfl
    all_goals rfl

theorem reportLeftUp_tx (s : State) :
    (reportLeftUp s).tx = { s.tx with buffer := if s.role = .origin ∧ s.streaming then none else s.tx.buffer } := by
  unfold reportLeftUp
  split
  · rename_i h
    rw [originLeftUp_eq]
    split <;> simp_all
  · rename_i h; simp [h]

/-- The replica's report of the link leaving UP moves APPLYING to LISTENING (R166). -/
theorem replicaLeftUp_mirror (s : State) :
    (replicaLeftUp s).mirror =
      { s.mirror with replica := if s.mirror.replica = .applying then .listening else s.mirror.replica } := by
  unfold replicaLeftUp
  split
  · rename_i h
    unfold flushSlots abandonFrame releaseSlot
    (repeat' split) <;> simp_all
  all_goals (rename_i h; rw [if_neg (by rw [h]; decide)])

end Sys2Proof.Machine
end

