-- ==== Sys2Proof/WellFormed.lean ====
section
/-! DEFINITION. Which commands are well formed: a row's operands are of the kind the row's rule names. `exec`
answers every command, well formed or not. -/

namespace Sys2Proof

open Machine

/-- Whether bytes make up one whole frame of one of these kinds: header, the payload length its kind
requires, CRC (R122, R130). Their CRC and field ranges are the receiver's own checks. -/
def wholeFrame (codes : List (BitVec 4)) (bytes : List Byte) : Bool :=
  match bytes with
  | byte0 :: byte1 :: _ =>
    codes.contains (headerCode byte0) &&
      (fieldAt bytes 6 2 == requiredLength (headerCode byte0) (byte1.getLsbD 0)) &&
      (bytes.length == 12 + fieldAt bytes 6 2)
  | _ => false

/-- Whether what ends a reception is a framing error for a part of some role (R131). -/
def someFramingError (c : FramingCheck) : Bool := isFramingError .origin c || isFramingError .replica c

/-- Command codes that both roles have; no code among them is an UNKNOWN_COMMAND (R186). -/
def commandOfBothRoles (code : Byte) : Bool := code = 1 || code = 2 || code = 8 || code = 9 || code = 10

/-- Indices whose writes have rows of their own (spec/10, register summary). -/
def indexWithOwnRow (index : Byte) : Bool :=
  index = 0x01 || index = 0x03 || index = 0x04 || index = 0x05 ||
    (0x0C ≤ index.toNat && index.toNat ≤ 0x10) || index.extractLsb' 4 4 = 2

/-- Whether memory reports as many beats as a line has (R65, R67). -/
def lineBeats (beats : List MemAnswer) : Bool := beats.length == 4

/-- Well-formedness of a command. -/
def Instr.wellFormed : Instr → Bool
  | .dataFrameReceived bytes => wholeFrame [2, 3, 4, 5] bytes
  | .helloReceived bytes => wholeFrame [1] bytes
  | .helloAckReceived bytes => wholeFrame [8] bytes
  | .ackReceived bytes => wholeFrame [9] bytes
  | .nakReceived bytes => wholeFrame [10] bytes
  | .rxFraming c => someFramingError c
  | .unknownCommand code => !commandOfBothRoles code
  | .registerWrite index data => data.length < 4 || (data.length == 4 && !indexWithOwnRow index)
  | .systemMemoryAnswer beats _ => beats.length == 1 || lineBeats beats
  | .lineReadAnswer beats _ => lineBeats beats
  | .applyWriteAnswer beats => lineBeats beats
  | .invalidOpcode opcode _ => opcode != 1 && opcode != 2
  | _ => true

end Sys2Proof
end

