-- ==== Sys2Proof/Tests/Slice0.lean ====
section
/-! SUPPORT. Checks of the model on small states: ill-formed commands, worked values of the spec, and for each
obligation with hypotheses a state that meets them, clause by clause. -/

namespace Sys2Proof.Tests

open Sys2Proof.Machine

/-! ### Small states -/

/-- A table whose entry 0 mirrors every block. -/
def mirrorAll (s : State) : State := { s with regions := s.regions.set 0 ⟨true, 0, 65535, .mirror⟩ }

/-- An aligned origin with this link state and mirror state, session 1, mirroring every block. -/
def origin (l : LinkState) (m : MirrorState) : State :=
  mirrorAll { State.reset with
    control.linkEnable := l != .off
    link := ⟨l, 1, some 500, (if l = .up then some 4000 else none), none, 0, false⟩
    rx.phase := .between
    mirror.state := m }

/-- An aligned replica with this link state and replica state, session 3 in UP, mirroring every block. -/
def replica (l : LinkState) (m : ReplicaState) : State :=
  mirrorAll { State.reset with
    role := .replica
    control.linkEnable := l != .off
    link := ⟨l, (if l = .up then 3 else 0), none, (if l = .up then some 4000 else none), none, 0, false⟩
    rx.phase := .between
    mirror.replica := m }

/-- The part with a transaction of the master at memory. -/
def atMemory (r : MasterRequest) (s : State) : State :=
  { s with sys.phase := .atMemory (recordOf r), mem.phase := .busy (memTransactionOf (recordOf r)) .passed }

/-- The part with a transaction that waits for the memory port. -/
def waiting (r : MasterRequest) (s : State) : State :=
  { s with
    sys.phase := .atMemory (recordOf r)
    mem := { s.mem with phase := .recovery, systemRequest := some (memTransactionOf (recordOf r)) } }

/-- A line write to block 1. -/
def lineWrite : MasterRequest := .lineWrite 0x410 0xFFFF 5

/-- Its record with the lookup taken. -/
def writeRecord : Transaction := { recordOf lineWrite with lookup := some true }

/-- The part with that write held. -/
def holding (s : State) : State := { s with sys := ⟨.held writeRecord, some 50⟩ }

/-- A WRITE entry of the same line. -/
def writeEntry (seq : Seq) (sent : Bool) : Entry := ⟨seq, sent, .write 0x410 0x00FF 7⟩

/-- The part with this journal, next number 9. -/
def journalled (entries : List Entry) (sendPoint : Nat) (s : State) : State :=
  { s with journal := ⟨entries, sendPoint, 9, 0⟩ }

/-- The part with `n` entries in its journal. -/
def filled (n : Nat) (s : State) : State := journalled (List.replicate n (writeEntry 1 false)) 0 s

/-- A PROBE of session 3. -/
def probe : Frame := ⟨3, 0, .probe⟩

/-- A frame in a slot, with its bytes. -/
def inSlot (f : Frame) : Slot := ⟨f, f.bytes⟩

/-- The replica with a data frame of session 3 next in line and `n` PROBEs behind it. -/
def inLine (body : FrameBody) (n : Nat) : State :=
  let s := replica .up .applying
  { s with rx.slots := inSlot ⟨3, 1, body⟩ :: List.replicate n (inSlot probe) }

/-- The replica with that frame in hand and its write of line `i` at memory. -/
def applying (phase : ApplyPhase) (i : Fin 64) (body : FrameBody) (n : Nat) : State :=
  let s := inLine body n
  { s with
    apply.phase := phase, apply.nextLine := i
    mem.phase := .busy ⟨.lineWrite, 0, 0xFFFF, 0, .apply 1 i⟩ .passed }

/-- The origin in RESYNCING with one copy under way whose read of line `i` is at memory. -/
def copying (i : Fin 64) (poisoned : Bool) : State :=
  let s := journalled [⟨8, false, .block 5 2 .reading⟩] 0 (origin .up .resyncing)
  { s with
    copy.buffers := s.copy.buffers.set 2 ⟨some 8, Vector.replicate 64 0⟩
    copy.records := [⟨5, 8, 2, i, poisoned⟩]
    copy.outstanding := some ⟨2, 8, i⟩
    mem.phase := .busy ⟨.lineRead, 0x1400, 0xFFFF, 0, .copy ⟨2, 8, i⟩⟩ .passed }

/-- The dirty map with these two blocks and the cursor between them. -/
def twoBlocks : DirtyMap := ⟨[3, 9], 2, 5⟩

/-- The origin in RESYNCING with a pending start. -/
def startPending (m : DirtyMap) : State :=
  let s := origin .up .resyncing
  { s with dirty := m, copy.pendingStart := true }

/-- A 64-line block of zeros. -/
def zeroLines : Vector Line 64 := Vector.replicate 64 0

/-! ### Ill-formed commands -/

theorem test_short_frame_is_ill_formed : (Instr.ackReceived [0x91]).wellFormed = false := by decide
theorem test_frame_of_other_kind_is_ill_formed :
    (Instr.ackReceived (Frame.mk 1 0 (.nak false)).bytes).wellFormed = false := by decide
theorem test_frame_of_wrong_length_is_ill_formed :
    (Instr.dataFrameReceived ((Frame.mk 1 0 (.mark 1 true false)).bytes ++ [0])).wellFormed = false := by decide
theorem test_payload_length_is_checked :
    (Instr.helloReceived [0x11, 0, 0, 0, 0, 0, 1, 0, 0, 0, 0, 0, 0]).wellFormed = false := by decide
theorem test_hello_ack_is_no_hello : (Instr.helloReceived (Frame.mk 1 0 (.helloAck true)).bytes).wellFormed = false := by
  decide
theorem test_hello_is_no_hello_ack : (Instr.helloAckReceived (Frame.mk 1 0 .hello).bytes).wellFormed = false := by decide
theorem test_ack_is_no_nak : (Instr.nakReceived (Frame.mk 1 0 (.ack true)).bytes).wellFormed = false := by decide
theorem test_accepted_kind_is_no_framing_error_of_both_roles :
    (Instr.rxFraming (.lengthOutOfRange 0x21 0 22)).wellFormed = false := by decide
theorem test_known_command_is_ill_formed : (Instr.unknownCommand 9).wellFormed = false := by decide
theorem test_register_with_own_row_is_ill_formed : (Instr.registerWrite 0x2F [0, 0, 0, 0]).wellFormed = false := by decide
theorem test_valid_opcode_is_ill_formed : (Instr.invalidOpcode 2 0).wellFormed = false := by decide
theorem test_beats_of_no_transaction_are_ill_formed :
    (Instr.systemMemoryAnswer [.ok, .ok] 0).wellFormed = false ∧ (Instr.lineReadAnswer [.ok] 0).wellFormed = false ∧
      (Instr.applyWriteAnswer []).wellFormed = false := by decide
theorem test_well_formed_commands :
    (Instr.dataFrameReceived (Frame.mk 1 7 (.mark 1 true false)).bytes).wellFormed = true ∧
      (Instr.helloReceived (Frame.mk 1 7 .hello).bytes).wellFormed = true ∧
      (Instr.rxFraming (.kindNotAccepted 0x61)).wellFormed = true ∧ (Instr.unknownCommand 3).wellFormed = true ∧
      (Instr.registerWrite 0x02 [0, 0, 0, 0]).wellFormed = true ∧ (Instr.registerWrite 0x2F [0, 0, 0]).wellFormed = true ∧ (Instr.invalidOpcode 3 0).wellFormed = true := by decide

/-! ### Worked values -/

set_option maxRecDepth 60000 in
/-- R123: the check value of this CRC over the digits 1 to 9, and the generator as it leaves on the line. -/
theorem test_crc : crc32 [0x31, 0x32, 0x33, 0x34, 0x35, 0x36, 0x37, 0x38, 0x39] = 0xCBF43926 ∧
    crcPolynomial = 0xEDB88320 := by decide
/-- R122: header, payload and order of bytes of a WRITE frame. -/
theorem test_write_frame_bytes :
    (Frame.mk 5 0x01020304 (.write 0x3FFFFF0 0x8001 0x0F)).covered =
      [0x25, 0, 4, 3, 2, 1, 22, 0, 0xF0, 0xFF, 0xFF, 0x03, 0x01, 0x80,
        0x0F, 0, 0, 0, 0, 0, 0, 0, 0, 0, 0, 0, 0, 0, 0, 0] := by decide
/-- R122: a MARK frame's flags, and a HELLO_ACK's. -/
theorem test_flags : (FrameBody.mark 1 true false).flags = 1 ∧ (FrameBody.mark 1 false true).flags = 2 ∧
    (FrameBody.helloAck true).flags = 1 ∧ (FrameBody.poisoned 0).flags = 1 := by decide
set_option maxRecDepth 60000 in
/-- R131: a WRITE of an unaligned line address is out of range, an ACK is no frame for a replica. -/
theorem test_field_range :
    judgeBytes .replica (Frame.mk 1 0 (.write 0x8 0 0)).bytes = .fieldRange ∧
      judgeBytes .replica (Frame.mk 1 0 (.ack true)).bytes = .framing := by decide
/-- R1: the wrap of sequence numbers; R139: session 1 follows 15. -/
theorem test_wrap : precedes 0xFFFFFFFF 0 = true ∧ precedes 0 0x7FFFFFFF = true ∧ precedes 0 0x80000000 = false ∧
    precedes 4 4 = false ∧ nextSession 15 = 1 ∧ nextSession 0 = 1 := by decide
/-- R37: the scan goes upward from the cursor and then starts over; the cursor wraps after block 65,535. -/
theorem test_take_next : twoBlocks.takeNext = some (9, ⟨[3], 1, 10⟩) ∧
    (DirtyMap.mk [3] 1 10).takeNext = some (3, ⟨[], 0, 4⟩) ∧
    (DirtyMap.mk [65535] 1 0).takeNext = some (65535, ⟨[], 0, 0⟩) := by decide
/-- R35, R46: an earlier EXCLUDE entry cuts a hole in a later MIRROR entry. -/
theorem test_seed : (DirtyMap.empty.seed [⟨true, 2, 3, .exclude⟩, ⟨true, 1, 4, .mirror⟩]).blocks = [1, 4] := by decide
/-- R49: a word write to the third word of a line. -/
theorem test_word_capture : captureMask (recordOf (.wordWrite 0x41B 0x6 0xAABBCCDD)) = 0x0600 ∧
    captureData (recordOf (.wordWrite 0x41B 0x6 0xAABBCCDD)) = 0xAABBCCDD0000000000000000 := by decide
/-- R14: a merge keeps the bytes that the write does not cover. -/
theorem test_merge : ((Journal.mk [writeEntry 8 false] 0 9 0).merge 0x0001 0xAB).entries =
    [⟨8, false, .write 0x410 0x00FF 0xAB⟩] := by decide
/-- Spec/10, register summary: STATUS and CONTROL of an origin in SYNCED with the link UP. -/
theorem test_status : readRegister 0x02 (origin .up .synced) = some 0x1F ∧
    readRegister 0x01 (origin .up .synced) = some 0x109 ∧ readRegister 0x06 (filled 3 (origin .up .synced)) = some 3 ∧
    readRegister 0x3D State.reset = none := by decide
/-- The byte on SPDO, and that of the next byte times, a byte time each. -/
def driven : Nat → State → List (Option Byte)
  | 0, _ => []
  | n + 1, s => s.sp.spdo :: driven n (serviceByteTime s)

/-- R181: what a READ of STATUS drives in DATA, RESPONSE, DONE and deselected, and in OPCODE and INDEX. -/
theorem test_read_is_driven :
    driven 7 (clockHead 1 2 (selectPort (origin .up .synced))) = [some 0x1F, some 0, some 0, some 0, some 1, some 0, none] ∧
    (selectPort State.reset).sp.spdo = some 0 ∧ (clockByte 1 (selectPort State.reset)).sp.spdo = some 0 := by decide
/-- R181: a bad opcode drives 0 and REFUSED; most significant bit first. -/
theorem test_bad_opcode_is_driven : driven 6 (clockHead 0 2 (selectPort State.reset)) =
    [some 0, some 0, some 0, some 0, some 2, some 0] ∧
    (respond .busy State.reset).spdo = some [false, false, false, false, false, true, false, false] := by decide
/-- R181, R183: the bytes 0x02, 0x03, 0x01, 0, 0, 0 are START; one byte fewer is nothing. -/
theorem test_write_transaction_is_start :
    exec (.registerWrite 0x03 [1, 0, 0, 0]) State.reset = exec .start State.reset ∧
    exec (.registerWrite 0x03 [1, 0, 0]) State.reset = .next State.reset := ⟨rfl, rfl⟩
/-- R181, R185: the bytes of a WRITE come least significant first. -/
theorem test_write_transaction_is_region :
    exec (.registerWrite 0x24 [0x03, 0x02, 0x01, 0x80]) State.reset = exec (.region 2 .base 0x80010203) State.reset := rfl
/-- R193: a transaction begun before PORST was deasserted is ignored, and the next one is taken. -/
theorem test_ignored_transaction :
    ∃ s, exec (.porstDeassert true ⟨false, false⟩ true) { State.reset with porst := true } = .next s ∧
      exec .start s = .next { s with sp.phase := .deselected } ∧ s.spdo = none := ⟨_, rfl, rfl, rfl⟩
/-- A SOFT_RESET that waits to be taken. -/
def resetWaiting : State := { State.reset with sp.resetPending := true }
/-- R188: a START that comes before the reset is taken finds the part reset by the deassertion of SPSEL. -/
theorem test_deassertion_takes_soft_reset :
    exec .start { resetWaiting with enables := 5, tx.line := .space } = exec .start State.reset := rfl
/-- R181, R188: past the RESPONSE byte of a SOFT_RESET the port is in DONE while SPSEL stays asserted, and is deselected
by it; taken at the deassertion, the reset leaves SPDO undriven. -/
theorem test_spdo_past_soft_reset :
    (∃ s, exec .softReset (origin .up .synced) = .next s ∧ s.sp.spdo = some 1 ∧
      ∃ t, exec (.softResetTaken ⟨false, false⟩ true) s = .next t ∧ driven 2 t = [some 0, none]) ∧
    exec (.softResetTaken ⟨false, true⟩ false) resetWaiting = .next { State.reset with drainPin := true } ∧
    State.reset.spdo = none := ⟨⟨_, rfl, rfl, _, rfl, rfl⟩, rfl, rfl⟩
/-- R43: ready alone, with error, with fenced. -/
theorem test_completion_pins : ∀ c ∈ [Completion.ok, .memError, .fenced],
    let s := { State.reset with sys.phase := .complete writeRecord c 0 }
    (s.syrdy, s.syerr, s.syfnc) = (true, c == .memError, c == .fenced) := by decide
/-- R65: a line write of the master in four beats, and a word read in one. -/
theorem test_memory_beats :
    (atMemory (.lineWrite 0x410 0x8421 0x0F0E0D0C0B0A09080706050403020100) State.reset).mem.drive =
      some ⟨0x410, true, true,
        [⟨1, some 0x03020100⟩, ⟨2, some 0x07060504⟩, ⟨4, some 0x0B0A0908⟩, ⟨8, some 0x0F0E0D0C⟩]⟩ ∧
    (atMemory (.wordRead 0x413) State.reset).mem.drive = some ⟨0x410, false, false, [⟨0xF, none⟩]⟩ := by decide
/-- R67: an ERROR on the second beat makes the whole answer ERROR. -/
theorem test_error_on_a_beat : wholeAnswer [.ok, .error, .ok, .ok] = .error ∧ wholeAnswer [.ok, .ok, .ok, .ok] = .ok := by
  decide
/-- R119: the ten levels of a character. -/
theorem test_character : characterLevels 0x8D = [false, true, false, true, true, false, false, false, true, true] ∧
    sampledCharacter (characterLevels 0x8D) = some 0x8D ∧ sampledCharacter (List.replicate 10 false) = none := by decide
/-- R135: one run of space is reported once, the character it was taken for is a bad stop bit, and a later one begins a
new run. -/
theorem test_break_once :
    exec .breakDetected (origin .down .tracking) = .next { origin .down .tracking with
      rx := ⟨.hunting, [], true⟩, counters := (origin .down .tracking).counted .rxFraming, causes := (origin .down .tracking).raised .rxError } ∧
    exec .breakDetected { State.reset with link.state := .down, rx.runReported := true } =
      .next { State.reset with link.state := .down, rx.runReported := true } ∧
    exec (.rxFraming .badStopBit) { State.reset with link.state := .down, rx.runReported := true } =
      .next { State.reset with link.state := .down } := ⟨rfl, rfl, rfl⟩
/-- On an empty queue with the service port deselected the block idles (log 7). -/
theorem test_idle : step State.reset = .next State.reset := rfl
/-- No word spells a command, so the queue is left as it is. -/
theorem test_no_word (n w : Nat) : State.reset.withFetchWord n w = State.reset := rfl

/-! ### States that meet the hypotheses of the obligations -/

/-- In every small state the service port takes transactions, as every statement about its commands supposes. -/
theorem witness_ServicePortTakes (l : LinkState) (m : MirrorState) (r : ReplicaState) :
    (origin l m).porst = false ∧ (origin l m).portReady ∧ (replica l r).porst = false ∧ (replica l r).portReady :=
  ⟨rfl, ⟨nofun, rfl⟩, rfl, ⟨nofun, rfl⟩⟩

theorem witness_StepTakesFrontCommand :
    ({ State.reset with pending := [.memoryReady, .load] } : State).pending = .memoryReady :: [.load] ∧
    (∀ s ∈ [State.reset, takeAtIndexByte 1 2 State.reset, takeAtIndexByte 3 2 State.reset, respond .busy State.reset,
        { State.reset with sp.phase := .done }, { State.reset with sp.phase := .ignored },
        { State.reset with sp.phase := .data 1 2 [0, 0, 0] }],
      s.pending = [] ∧ s.porst = false ∧ s.sp.resetPending = false) := ⟨rfl, by decide⟩

theorem witness_PorstHoldsThePart :
    ({ State.reset with porst := true } : State).porst = true ∧ Instr.load ≠ .memoryReady ∧ Instr.load ≠ .srstAssert ∧
      Instr.load ≠ .srstDeassert ∧ Instr.load ≠ .porstAssert := by decide

theorem witness_MasterTransactionGoesToMemoryOrIsFenced :
    ((origin .off .disabled).srst = false ∧ (origin .off .disabled).sys.phase = .idle ∧
      (origin .off .disabled).mem.phase = .free) ∧
    ((replica .off .disabled).mirrored 0x410 = true ∧ (replica .off .disabled).mirror.replica = .disabled) ∧
    ({ State.reset with srst := true } : State).srst = true ∧ (atMemory lineWrite State.reset).sys.phase ≠ .idle ∧
    ((replica .up .listening).sys.phase = .idle ∧ (recordOf lineWrite).kind.isWrite = true ∧
      (replica .up .listening).mirrored (recordOf lineWrite).address = true ∧
      (replica .up .applying).mirrored (recordOf (.wordWrite 0x3FFFFFF 0 0)).address = true) := by decide

theorem witness_ReadyArbitratesWaitingRequests :
    State.reset.mem.phase ≠ .recovery ∧
    ∃ m : MemTransaction, ∃ s : State, s.mem.phase = .recovery ∧ s.mem.systemRequest = some m ∧
      s.mem.engineRequest = some m ∧ s.control.arb = .alternate ∧ s.mem.lastGranted = .system ∧
      (waiting lineWrite State.reset).mem.engineRequest = none ∧ (waiting lineWrite State.reset).mem.lastGranted = .engine :=
  ⟨by decide, memTransactionOf writeRecord,
    { State.reset with mem := ⟨.recovery, some (memTransactionOf writeRecord), some (memTransactionOf writeRecord), .system⟩ },
    by decide⟩

theorem witness_UncapturedAnswerCompletes :
    (∀ r ∈ [MasterRequest.lineRead 0x410, .wordRead 0x414, lineWrite, .wordWrite 0x410 0xF 1],
      (atMemory r (replica .off .disabled)).mem.phase = .busy (memTransactionOf (recordOf r)) .passed ∧
      (memTransactionOf (recordOf r)).owner = .system ∧
      (atMemory r (replica .off .disabled)).sys.phase = .atMemory (recordOf r)) ∧
    ((atMemory lineWrite State.reset).mirrored 0x410 = false ∧ (origin .up .synced).mirrored 0x410 = true ∧
      (origin .off .disabled).mirror.state = .disabled) ∧
    ({ State.reset with sys.phase := .complete writeRecord .ok 0 } : State).sys.phase = .complete writeRecord .ok 0 ∧
    (MemAnswer.error ∉ [MemAnswer.ok, .ok, .ok, .ok] ∧ MemAnswer.error ∈ [MemAnswer.ok, .ok, .ok, .error]) ∧
    (∃ s : State, s.mem.phase = .busy (memTransactionOf writeRecord) .dropped) ∧
    (∀ t code data, State.reset.sys.phase ≠ .complete t code data) :=
  ⟨by decide, by decide, by decide, by decide, ⟨{ State.reset with mem.phase := .busy _ .dropped }, rfl⟩, nofun⟩

theorem witness_CapturedTransactionKeepsItsLine :
    (∀ t fate, State.reset.mem.phase ≠ .busy t fate) ∧
    (∀ r ∈ [MasterRequest.lineRead 0x410, .wordRead 0x414, lineWrite, .wordWrite 0x410 0xF 1],
      (atMemory r State.reset).mem.phase = .busy (memTransactionOf (recordOf r)) .passed) := ⟨nofun, by decide⟩

theorem witness_CapturePointTakesFirstCase :
    (∀ m ∈ [MirrorState.tracking, .resyncing, .synced],
      (atMemory lineWrite (origin .up m)).sys.phase = .atMemory (recordOf lineWrite) ∧
      (origin .up m).role = .origin ∧ (origin .up m).mirrored (recordOf lineWrite).address = true) ∧
    (journalled [writeEntry 8 false] 0 (origin .up .synced)).mayMerge 0x410 = true ∧
    (origin .up .synced).mayMerge 0x410 = false ∧
    (journalled [writeEntry 8 true] 1 (origin .up .synced)).mayMerge 0x410 = false ∧
    (origin .up .synced).control.pace = .stall ∧ (origin .up .synced).cfg.highWatermark = 448 := by decide

/-- The watermark is met exactly at 448 entries, and the journal is full at 512. -/
theorem witness_CapturePoint_bounds (s : State) :
    (filled 447 s).journal.entries.length = 447 ∧ (filled 448 s).journal.entries.length = 448 ∧
      (filled 511 s).journal.entries.length = 511 ∧ (filled 512 s).journal.entries.length = 512 := by
  simp only [filled, journalled, List.length_replicate, and_self]

theorem witness_HeldWriteIsReleased :
    (holding (origin .up .synced)).sys.phase = .held writeRecord ∧
    (holding (origin .up .synced)).sys.stallTimer.isSome = true ∧
    ({ holding (origin .up .synced) with reports.captureAcks := 1 } : State).reports.captureAcks = 0 + 1 ∧
    (holding (origin .up .synced)).journal.entries.length < (origin .up .synced).cfg.highWatermark.toNat := by decide

theorem witness_SrstSettlesSystemPortAndItsAnswer :
    (State.reset.srst = false ∧ State.reset.sys.phase = .idle) ∧
    (waiting lineWrite State.reset).mem.systemRequest.isSome = true ∧
    ((atMemory lineWrite State.reset).mem.systemRequest = none ∧
      (atMemory lineWrite State.reset).mem.phase = .busy (memTransactionOf (recordOf lineWrite)) .passed) ∧
    (holding State.reset).sys.phase = .held writeRecord ∧
    ({ State.reset with sys.phase := .complete writeRecord .fenced 0 } : State).sys.phase = .complete writeRecord .fenced 0 ∧
    ((memTransactionOf writeRecord).owner = .system ∧ (memTransactionOf writeRecord).kind.isWrite = true ∧
      (origin .up .synced).mirrored (memTransactionOf writeRecord).address = true ∧
      State.reset.mirrored (memTransactionOf writeRecord).address = false) := by decide

theorem witness_LookupTakesLowestMatchingEntry :
    (Region.mk true 7 6 .mirror).limit.toNat < (Region.mk true 7 6 .mirror).base.toNat ∧
    (Region.mk true 7 7 .mirror).contains 7 = true ∧
    lookupBlock [⟨true, 7, 6, .mirror⟩, ⟨true, 7, 7, .exclude⟩, ⟨true, 0, 65535, .mirror⟩] 7 = false ∧
    lookupBlock [⟨true, 7, 6, .mirror⟩, ⟨true, 7, 7, .exclude⟩, ⟨true, 0, 65535, .mirror⟩] 8 = true := by decide

theorem witness_MergeFoldsIntoUnsentTail :
    (journalled [writeEntry 7 true, writeEntry 8 false] 1 (origin .up .synced)).mayMerge 0x410 = true ∧
    (Journal.mk [writeEntry 7 true, writeEntry 8 false] 1 9 0).entries =
      [writeEntry 7 true] ++ [⟨8, false, .write 0x410 0x00FF 7⟩] := by decide

theorem witness_LoadTakesSendPointEntry :
    (∀ e ∈ [writeEntry 8 false, writeEntry 8 true, ⟨8, false, .block 5 2 .ready⟩, ⟨8, false, .block 5 2 .poisoned⟩,
        ⟨8, false, .mark 1 true false⟩],
      (journalled [e] 0 (origin .up .resyncing)).journal.entries[0]? = some e) ∧
    ((origin .up .resyncing).tx.buffer = none ∧ 0 < (origin .up .resyncing).cfg.window.toNat) ∧
    (replica .up .applying).role = .replica ∧ (origin .connecting .tracking).link.state ≠ .up ∧
    ({ origin .up .synced with tx.buffer := some probe } : State).tx.buffer.isSome = true ∧
    (origin .up .synced).cfg.window.toNat = 16 ∧ (origin .up .synced).journal.entries[0]? = none ∧
    (copying 0 false).journal.entries[0]? = some ⟨8, false, .block 5 2 .reading⟩ := by decide

/-- Two entries sent and one not, around the wrap of the numbers. -/
def wrapped : Journal := ⟨[writeEntry 0xFFFFFFFE true, writeEntry 0xFFFFFFFF true, writeEntry 0 false], 2, 1, 0xFFFFFFFD⟩

theorem witness_AcknowledgeAndRewindMoveTheHeadAndSendPoint :
    wrapped.wf = true ∧ (Journal.mk [] 0 1 0).wf = true ∧ (wrapped.acknowledged 0xFFFFFFFD).entries.length = 3 ∧
    (wrapped.acknowledged 0xFFFFFFFF).entries.length = 1 ∧ (wrapped.acknowledged 5).entries.length = 1 ∧
    precedes 0xFFFFFFFD wrapped.headSeq = true ∧ wrapped.rewindPoint 0xFFFFFFFD = 0 ∧
    (atOrBefore wrapped.headSeq 0xFFFFFFFF = true ∧ atOrBefore 0xFFFFFFFF wrapped.sendSeq = true) ∧
    wrapped.rewindPoint 0xFFFFFFFF = 1 ∧ (0 : Seq) = wrapped.sendSeq ∧ wrapped.rewindPoint 0 = 2 ∧
    (precedes 1 wrapped.headSeq = false ∧ precedes wrapped.sendSeq 1 = true) ∧ wrapped.rewindPoint 1 = 2 := by decide

theorem witness_DirtyMapMarksSeedsAndTakes :
    twoBlocks.wf = true ∧ DirtyMap.empty.wf = true ∧ DirtyMap.empty.takeNext = none ∧
    twoBlocks.takeNext = some (9, ⟨[3], 1, 10⟩) ∧ (3 ∈ twoBlocks.blocks) ∧ (4 : Block) ∉ twoBlocks.blocks := by decide

theorem witness_ClearAllEmptiesDirtyMap :
    resetWaiting.porst = false ∧ resetWaiting.sp.resetPending = true ∧ (origin .up .synced).role = .origin ∧
    (origin .up .synced).mirror.state ≠ .disabled ∧ State.reset.dirty = ⟨[], 0, 0⟩ := by decide

theorem witness_CopyStartIsDecidedAndReserves :
    ((startPending twoBlocks).mirror.state = .resyncing ∧ (startPending twoBlocks).link.state = .up ∧
      (startPending twoBlocks).copy.paused = false ∧ (startPending twoBlocks).copy.buffers[0].owner = none ∧
      (startPending twoBlocks).journal.entries.length < (startPending twoBlocks).cfg.copyCeiling.toNat ∧
      (startPending twoBlocks).copy.pacingTimer = none ∧ 0 < (startPending twoBlocks).dirty.count ∧
      ({ startPending twoBlocks with copy.pendingStart := false } : State).copy.pendingStart = false) ∧
    ({ State.reset with copy.pacingTimer := some 9 } : State).copy.pacingTimer.isSome = true ∧
    (startPending DirtyMap.empty).dirty.takeNext = none ∧
    ((startPending twoBlocks).dirty.takeNext = some (9, ⟨[3], 1, 10⟩) ∧ (startPending twoBlocks).copy.outstanding = none ∧
      (startPending twoBlocks).copy.records = []) ∧
    ((copying 0 false).copy.outstanding = some ⟨2, 8, 0⟩ ∧ (copying 0 false).copy.buffers[0].owner = none) ∧
    ({ startPending twoBlocks with mirror.state := .synced } : State).mirror.state ≠ .resyncing := by decide

theorem witness_CopyReadsStoreLinesAndEndTheCopy :
    ((copying 0 false).mem.phase = .busy ⟨.lineRead, 0x1400, 0xFFFF, 0, .copy ⟨2, 8, 0⟩⟩ .passed ∧
      (copying 0 false).copy.records = [⟨5, 8, 2, 0, false⟩] ∧ (1 : Fin 64).val = (0 : Fin 64).val + 1 ∧
      (63 : Fin 64).val = (62 : Fin 64).val + 1 ∧ (copying 62 true).copy.records = [⟨5, 8, 2, 62, true⟩]) ∧
    ((copying 63 false).copy.records = [⟨5, 8, 2, 63, false⟩] ∧ (copying 63 true).copy.records = [⟨5, 8, 2, 63, true⟩]) ∧
    ((copying 0 false).journal.entries[0]? = some ⟨8, false, .block 5 2 .reading⟩) ∧
    ((startPending twoBlocks).copy.outstanding = none ∧ (startPending twoBlocks).copy.records = []) ∧
    ({ copying 0 false with copy.outstanding := none } : State).copy.outstanding = none ∧
    ({ copying 0 false with copy.records := [] } : State).copy.records = [] ∧
    ({ copying 0 false with mem.phase := .busy ⟨.lineRead, 0, 0xFFFF, 0, .copy ⟨2, 8, 0⟩⟩ .dropped } : State).mem.phase =
      .busy ⟨.lineRead, 0, 0xFFFF, 0, .copy ⟨2, 8, 0⟩⟩ .dropped := by decide

theorem witness_ShifterTakesControlFrameFirstOrBreak :
    ((origin .up .synced).link.state ≠ .off ∧ (origin .up .synced).tx.breakPending = false ∧
      (origin .up .synced).tx.line = .gap ∧ (origin .up .synced).tx.slot = none ∧ (origin .up .synced).tx.buffer = none) ∧
    ({ origin .up .synced with tx.slot := some probe } : State).tx.slot = some probe ∧
    ({ origin .up .synced with tx.buffer := some probe } : State).tx.buffer = some probe ∧
    ({ origin .up .synced with tx.line := .sending probe } : State).tx.line = .sending probe ∧
    ({ origin .up .synced with tx.breakPending := true } : State).tx.breakPending = true ∧
    ({ origin .up .synced with tx.line := .space } : State).tx.line = .space ∧ State.reset.link.state = .off := by decide

set_option maxRecDepth 60000 in
theorem witness_FramingErrorsAndWrongCrcDiscard :
    (({ origin .down .tracking with rx.phase := .hunting } : State).rx.phase = .hunting ∧
      (origin .down .tracking).link.state ≠ .off) ∧ (origin .down .tracking).aligned ∧
    isFramingError .origin (.kindNotAccepted 0x21) = true ∧ isFramingError .replica (.lengthOutOfRange 0x21 0 23) = true ∧
    isFramingError .origin .badStopBit = true ∧ kindAccepted .origin (FrameBody.ack true).code = true ∧
    (0 : Word) ≠ crc32 (Frame.mk 1 0 (.ack true)).covered ∧
    ((origin .down .tracking).rx.runReported = false ∧ (origin .up .synced).rx.phase ≠ .hunting ∧
      (origin .up .synced).link.state = .up ∧
      ({ origin .down .tracking with rx := ⟨.hunting, [], true⟩ } : State).rx.runReported = true) ∧
    ((replica .down .disabled).role = .replica ∧ (List.replicate 18 (0 : Byte)).length = 18 ∧
      (8 : Word).toNat % 16 ≠ 0 ∧ (0x3FFFFF0 : Nat) < (0x4000000 : Word).toNat ∧ (65535 : Nat) < (65536 : Word).toNat ∧
      (List.replicate 0 (0 : Byte)).length = if (1 : Byte).getLsbD 0 then 0 else 1024) ∧
    (replica .down .disabled).aligned ∧
    (List.replicate 1024 (0 : Byte)).length = if (0 : Byte).getLsbD 0 then 0 else 1024 :=
  ⟨by decide, ⟨by decide, by decide⟩, by decide, by decide, by decide, by decide, by decide, by decide, by decide,
    ⟨by decide, by decide⟩, by simp⟩

theorem witness_FrameBytesReadBackWhole :
    kindAccepted .replica (FrameBody.write 0x3FFFFF0 0x8001 9).code = true ∧
    (Frame.mk 15 0xFFFFFFFF (.write 0x3FFFFF0 0x8001 9)).wf = true ∧ (Frame.mk 1 0 (.nak true)).wf = true ∧
    kindAccepted .origin (FrameBody.nak true).code = true ∧ probe.bytes[0]? = some 0x53 ∧
    (List.replicate 10 false)[9]? = some false ∧ 10 * 12 ≤ 120 ∧ State.reset.linkOk = true ∧
    State.reset.link.state = .off := by decide

/-- The bytes of that PROBE with flag bits set that the layout gives no meaning. -/
def rawProbe : List Byte :=
  let covered : List Byte := [0x53, 0xFE, 0, 0, 0, 0, 0, 0]
  covered ++ leBytes 4 (crc32 covered).toNat

set_option maxRecDepth 60000 in
theorem witness_DataFrameTakesSlotOrOverruns :
    (replica .up .applying).aligned ∧ (Frame.mk 3 1 (.write 0x410 1 1)).wf = true ∧
    (FrameBody.write 0x410 1 1).isData = true ∧ probe.body = .probe ∧ (inLine (.mark 1 true false) 2).rx.slots.length < 4 ∧
    4 ≤ (inLine (.mark 1 true false) 3).rx.slots.length ∧ (inLine (.mark 1 true false) 2).rx.slots.length = 3 ∧
    judgeBytes .replica rawProbe = .valid probe :=
  ⟨⟨by decide, by decide⟩, by decide⟩

theorem witness_HelloOpensSessionOrIsDiscarded :
    (replica .connecting .listening).aligned ∧ (replica .up .applying).aligned ∧ (replica .down .disabled).aligned ∧
    ((1 : SessionNo) ≠ 0 ∧ (15 : SessionNo) ≠ 0 ∧ (replica .connecting .listening).apply.phase = .idle ∧
      (replica .connecting .listening).mirror.replica = .listening ∧ (replica .up .applying).mirror.replica = .applying ∧
      (replica .down .disabled).mirror.replica = .disabled ∧ (replica .down .disabled).link.state = .down) ∧
    (∀ p ∈ [ApplyPhase.writing, .abandoning], (applying p 0 (.write 0x410 1 1) 1).apply.phase = p ∧
      (applying p 0 (.write 0x410 1 1) 1).mem.engineRequest = none ∧
      (applying p 0 (.write 0x410 1 1) 1).link.state = .up ∧ (applying p 0 (.write 0x410 1 1) 1).rx.phase = .between ∧
      ({ applying p 0 (.write 0x410 1 1) 1 with mem.engineRequest := some (memTransactionOf writeRecord) } :
        State).mem.engineRequest.isSome = true) :=
  ⟨⟨by decide, by decide⟩, ⟨by decide, by decide⟩, ⟨by decide, by decide⟩, by decide, by decide⟩

theorem witness_HelloAckBringsLinkUpOrIsStale :
    (origin .connecting .tracking).aligned ∧ (origin .connecting .disabled).aligned ∧ (origin .up .synced).aligned ∧
    (origin .down .tracking).aligned ∧
    ((origin .connecting .tracking).mirror.state = .tracking ∧ (origin .connecting .tracking).dirty.count = 0 ∧
      0 < ({ origin .connecting .tracking with dirty := twoBlocks } : State).dirty.count ∧
      (DirtyMap.empty.seed State.reset.regions.toList).count = 0 ∧
      0 < (DirtyMap.empty.seed [⟨true, 4, 4, .mirror⟩]).count ∧
      (2 : SessionNo) ≠ (origin .connecting .tracking).link.session ∧ (2 : Seq) ≠ (origin .connecting .tracking).journal.nextSeq ∧
      (1 : SessionNo) = (origin .up .synced).link.session) :=
  ⟨⟨by decide, by decide⟩, ⟨by decide, by decide⟩, ⟨by decide, by decide⟩, ⟨by decide, by decide⟩, by decide⟩

/-- The origin with two entries in flight and one behind. -/
def inFlight : State :=
  journalled [writeEntry 6 true, writeEntry 7 true, writeEntry 8 false] 2 (origin .up .synced)

theorem witness_AckAndNakActWithinRange :
    inFlight.aligned ∧ (origin .connecting .tracking).aligned ∧
    (inFlight.link.state = .up ∧ (1 : SessionNo) = inFlight.link.session ∧ (2 : SessionNo) ≠ inFlight.link.session) ∧
    (atOrBefore (inFlight.journal.headSeq - 1) 5 = true ∧ inFlight.journal.removedBy 5 = []) ∧
    (atOrBefore 7 inFlight.journal.sentLimit = true ∧ inFlight.journal.removedBy 7 ≠ []) ∧
    (atOrBefore 8 inFlight.journal.sentLimit = false ∧ atOrBefore (inFlight.journal.headSeq - 1) 4 = false) ∧
    (atOrBefore inFlight.journal.headSeq 6 = true ∧ inFlight.journal.removedBy (6 - 1) = []) ∧
    (atOrBefore 8 (inFlight.journal.sentLimit + 1) = true ∧ inFlight.journal.removedBy (8 - 1) ≠ []) ∧
    (atOrBefore 9 (inFlight.journal.sentLimit + 1) = false ∧ atOrBefore inFlight.journal.headSeq 5 = false) :=
  ⟨⟨by decide, by decide⟩, ⟨by decide, by decide⟩, by decide⟩

theorem witness_KeepaliveAndAckTimersExpire :
    (∀ l ∈ [LinkState.down, .connecting, .up], (origin l .disabled).link.helloTimer.isSome = true ∧
      (origin l .disabled).link.state = l) ∧
    (({ inFlight with link.ackTimer := some 9 } : State).link.ackTimer.isSome = true ∧ inFlight.journal.wf = true ∧
      ({ inFlight with link.timeouts := 6 } : State).link.timeouts + 1 < inFlight.cfg.retryLimit.toNat) := by decide

/-- The same origin at its last ack timeout, a drain pending. -/
def lastTimeout : State :=
  { inFlight with link.ackTimer := some 9, link.timeouts := 7, mirror.drain := .appended ⟨7, true⟩ }

theorem witness_OriginLinkLossSpillsEverything :
    (lastTimeout.porst = false ∧ lastTimeout.role = .origin ∧ lastTimeout.link.state = .up ∧
      lastTimeout.mirror.state = .synced ∧ lastTimeout.link.silenceTimer.isSome = true ∧
      lastTimeout.link.ackTimer.isSome = true ∧ lastTimeout.cfg.retryLimit.toNat ≤ lastTimeout.link.timeouts + 1 ∧
      lastTimeout.mirror.drain ≠ .clear ∧ (origin .up .resyncing).mirror.state = .resyncing ∧
      (holding lastTimeout).sys.phase = .held writeRecord) ∧ State.reset.buffersOk = true ∧
    (lastTimeout.rx.runReported = false ∧ lastTimeout.portReady ∧ lastTimeout.tx.line ≠ .space ∧
      ({ lastTimeout with tx.line := .space } : State).tx.line = .space) := by decide

theorem witness_ReplicaLeavingUpKeepsItsFlags :
    ((replica .up .applying).role = .replica ∧ (replica .up .applying).link.state = .up ∧
      (replica .up .applying).mirror.replica = .applying ∧ (replica .up .applying).link.silenceTimer.isSome = true ∧
      (replica .up .applying).apply.phase = .idle ∧ (replica .up .applying).rx.runReported = false ∧
      (replica .up .applying).portReady) ∧
    ((applying .writing 0 (.write 0x410 1 1) 1).apply.phase = .writing ∧
      (applying .writing 0 (.write 0x410 1 1) 1).mem.engineRequest = none ∧
      ({ applying .writing 0 (.write 0x410 1 1) 1 with mem.engineRequest := some (memTransactionOf writeRecord) } :
        State).mem.engineRequest.isSome = true) := by decide

theorem witness_FramesNotNextInLineAreReleased :
    (∃ f raw rest, (inLine (.mark 1 true false) 1).rx.slots = ⟨f, raw⟩ :: rest ∧ f.session = (replica .up .applying).link.session ∧
      f.body.isData = true ∧ (replica .up .applying).link.session ≠ 0) ∧
    (probe.session = (replica .up .applying).link.session ∧ probe.body = .probe ∧
      (2 : SessionNo) ≠ (replica .up .applying).link.session ∧ (replica .connecting .listening).link.session = 0) ∧
    (precedes 0 (replica .up .applying).apply.expected = true ∧ precedes (replica .up .applying).apply.expected 2 = true ∧
      (replica .up .applying).apply.lastNaked ≠ some (replica .up .applying).apply.expected ∧
      ({ replica .up .applying with apply.lastNaked := some 1 } : State).apply.lastNaked = some 1) ∧
    ((0x80000001 : Seq) ≠ (replica .up .applying).apply.expected ∧
      precedes 0x80000001 (replica .up .applying).apply.expected = false ∧
      precedes (replica .up .applying).apply.expected 0x80000001 = false) ∧
    (∃ n q fresh, some (Frame.mk 3 1 (.helloAck true)) = some ⟨n, q, .helloAck fresh⟩) :=
  ⟨⟨_, _, _, rfl, by decide⟩, by decide, by decide, by decide, ⟨_, _, _, rfl⟩⟩

theorem witness_MarkNextInLineIsApplied :
    (∃ r q, (inLine (.mark 4 true false) 1).rx.slots = ⟨⟨3, 1, .mark 4 true false⟩, r⟩ :: [q]) ∧
    (∃ r, (inLine (.mark 4 true false) 0).rx.slots = [⟨⟨3, 1, .mark 4 true false⟩, r⟩]) ∧
    ((inLine (.mark 4 true false) 1).apply.phase = .idle ∧ (inLine (.mark 4 true false) 1).link.session = 3 ∧
      (inLine (.mark 4 true false) 1).link.state ≠ .off ∧ (inLine (.mark 4 true false) 1).apply.expected = 1) ∧
    ((inLine (.mark 4 true false) 1).apply.ackCount + 1 < (inLine (.mark 4 true false) 1).cfg.ackEvery.toNat) ∧
    (({ inLine (.mark 4 true false) 1 with apply.ackCount := 3 } : State).cfg.ackEvery.toNat ≤ 3 + 1) :=
  ⟨⟨_, _, rfl⟩, ⟨_, rfl⟩, by decide⟩

theorem witness_PoisonedBlockNextInLineIsApplied :
    (∃ r q, (inLine (.poisoned 65535) 1).rx.slots = ⟨⟨3, 1, .poisoned 65535⟩, r⟩ :: [q]) ∧
    (∃ r, (inLine (.poisoned 65535) 0).rx.slots = [⟨⟨3, 1, .poisoned 65535⟩, r⟩]) ∧
    ((inLine (.poisoned 65535) 1).role = .replica ∧ (inLine (.poisoned 65535) 1).apply.expected = 1 ∧
      (inLine (.poisoned 65535) 1).apply.ackCount + 1 < (inLine (.poisoned 65535) 1).cfg.ackEvery.toNat) :=
  ⟨⟨_, _, rfl⟩, ⟨_, rfl⟩, by decide⟩

theorem witness_ApplyBeginsWithFirstLineWrite :
    (∃ r, (inLine (.write 0x410 1 1) 0).rx.slots = [⟨⟨3, 1, .write 0x410 1 1⟩, r⟩]) ∧
    (∃ r, (inLine (.block 65535 zeroLines) 0).rx.slots = [⟨⟨3, 1, .block 65535 zeroLines⟩, r⟩]) ∧
    ((inLine (.write 0x410 1 1) 0).apply.phase = .idle ∧ (inLine (.write 0x410 1 1) 0).link.session ≠ 0 ∧
      (inLine (.write 0x410 1 1) 0).apply.expected = 1) :=
  ⟨⟨_, rfl⟩, ⟨_, rfl⟩, by decide⟩

theorem witness_ApplyAnswerAdvancesOrEnds :
    ((applying .writing 0 (.write 0x410 1 1) 1).mem.phase = .busy ⟨.lineWrite, 0, 0xFFFF, 0, .apply 1 0⟩ .passed ∧
      (applying .writing 0 (.write 0x410 1 1) 1).apply.phase = .writing) ∧
    (∃ r q, (applying .writing 0 (.write 0x410 1 1) 1).rx.slots = ⟨⟨3, 1, .write 0x410 1 1⟩, r⟩ :: [q]) ∧
    ((applying .writing 62 (.block 5 zeroLines) 0).apply.nextLine = 62 ∧
      (63 : Fin 64).val = (applying .writing 62 (.block 5 zeroLines) 0).apply.nextLine.val + 1) ∧
    (∃ r, (applying .writing 62 (.block 5 zeroLines) 0).rx.slots = [⟨⟨3, 1, .block 5 zeroLines⟩, r⟩]) ∧
    (applying .writing 63 (.block 5 zeroLines) 0).apply.nextLine = 63 ∧
    (applying .abandoning 0 (.write 0x410 1 1) 0).apply.phase = .abandoning ∧
    ((applying .writing 0 (.write 0x410 1 1) 1).apply.ackCount + 1 <
      (applying .writing 0 (.write 0x410 1 1) 1).cfg.ackEvery.toNat) ∧
    (applying .writing 0 (.write 0x410 1 1) 1).link.state ≠ .off ∧
    ({ State.reset with mem.phase := .busy ⟨.lineWrite, 0, 0xFFFF, 0, .apply 1 0⟩ .dropped } : State).mem.phase =
      .busy ⟨.lineWrite, 0, 0xFFFF, 0, .apply 1 0⟩ .dropped :=
  ⟨by decide, ⟨_, _, rfl⟩, by decide, ⟨_, rfl⟩, by decide, by decide, by decide, by decide, by decide⟩

theorem witness_StartSeedsOriginOrOpensReplica :
    ((origin .up .disabled).role = .origin ∧ (origin .up .disabled).mirror.state = .disabled ∧
      (origin .up .disabled).link.state = .up ∧ (origin .down .disabled).link.state ≠ .up) ∧
    ((replica .connecting .disabled).mirror.replica = .disabled ∧ (replica .connecting .disabled).sys.phase = .idle ∧
      (waiting lineWrite (replica .connecting .disabled)).sys.phase = .atMemory (recordOf lineWrite) ∧
      (waiting lineWrite (replica .connecting .disabled)).mem.systemRequest.isSome = true ∧
      (waiting lineWrite (replica .connecting .disabled)).mirrored (recordOf lineWrite).address = true ∧
      (waiting lineWrite { State.reset with role := .replica }).mirrored (recordOf lineWrite).address = false ∧
      (atMemory lineWrite (replica .connecting .disabled)).mem.systemRequest = none ∧
      (recordOf (.lineRead 0)).kind.isWrite = false) := by decide

theorem witness_StopDiscardsOriginOrEndsReplica :
    ((origin .up .synced).mirror.state ≠ .disabled ∧ (origin .down .tracking).link.state ≠ .up ∧
      (holding (origin .up .synced)).sys.phase = .held writeRecord ∧ State.reset.buffersOk = true) ∧
    ((replica .connecting .listening).mirror.replica = .listening ∧ (replica .up .applying).mirror.replica = .applying ∧
      (replica .up .applying).apply.phase = .idle ∧ (applying .writing 0 (.write 0x410 1 1) 1).mem.engineRequest = none ∧
      (applying .writing 0 (.write 0x410 1 1) 1).role = .replica) := by decide

theorem witness_ReseedActsByStateAndStrayCommandsAreRefused :
    ((origin .up .synced).mirror.state = .synced ∧ (origin .up .resyncing).mirror.state = .resyncing ∧
      (origin .down .tracking).mirror.state = .tracking ∧ (DirtyMap.empty.seed State.reset.regions.toList).count = 0 ∧
      0 < (DirtyMap.empty.seed [⟨true, 4, 4, .mirror⟩]).count) ∧
    ((origin .up .disabled).mirror.state = .disabled ∧ (replica .off .disabled).role = .replica ∧
      (replica .up .applying).mirror.replica ≠ .disabled) ∧
    ((0 : Byte).toNat = 0 ∧ 10 < (11 : Byte).toNat ∧ 3 ≤ (3 : Byte).toNat ∧ (7 : Byte).toNat ≤ 7) := by decide

theorem witness_PauseAndResyncMoveThePauseFlag :
    (∀ m ∈ [MirrorState.disabled, .tracking, .resyncing, .synced], (origin .up m).porst = false ∧
      (origin .up m).role = .origin ∧ (origin .up m).mirror.state = m) ∧
    ({ origin .up .synced with copy.paused := true } : State).copy.paused = true := by decide

theorem witness_MarkAndDrainRequestsEnterTheStream :
    ((origin .up .synced).mirror.pendingMark = none ∧ (origin .up .synced).journal.entries.length < 512 ∧
      (origin .up .synced).markPin = false ∧ (origin .up .synced).drainPin = false ∧
      (origin .up .resyncing).mirror.state = .resyncing ∧ (origin .up .synced).mirror.drain = .clear ∧
      (origin .up .synced).link.state = .up) ∧
    (({ origin .up .synced with mirror.pendingMark := some ⟨1, false⟩ } : State).mirror.pendingMark.isSome = true ∧
      lastTimeout.mirror.drain ≠ .clear ∧ (origin .down .tracking).link.state ≠ .up ∧
      ({ State.reset with markPin := true } : State).markPin = true) ∧
    (∀ n, (filled n (origin .up .synced)).mirror = (origin .up .synced).mirror ∧
      (filled n (origin .up .synced)).link.state = .up ∧ (filled n (origin .up .synced)).drainPin = false) ∧
    (replica .up .applying).role = .replica :=
  ⟨by decide, by decide, fun _ => ⟨rfl, rfl, rfl⟩, rfl⟩

theorem witness_LinkResetAndLinkEnableMoveTheLink :
    (∀ l ∈ [LinkState.off, .down, .connecting], (origin l .disabled).link.state = l ∧
      (origin l .disabled).porst = false) ∧ (origin .connecting .disabled).tx.line ≠ .space ∧
    ({ origin .connecting .disabled with tx.line := .sending probe } : State).tx.line = .sending probe ∧
    (replica .connecting .disabled).apply.phase = .idle := by decide

theorem witness_ClearCountersClearsAllThirteen :
    State.reset.porst = false ∧ Counter.stalls ≠ .linkDowns := by decide

theorem witness_SoftResetAndPorstResetThePart :
    resetWaiting.porst = false ∧ resetWaiting.sp.resetPending = true ∧ resetWaiting.sp.phase ≠ .ignored ∧
    State.reset.portReady ∧ ({ State.reset with porst := true } : State).porst = true ∧
    ({ State.reset with sp.phase := .ignored } : State).sp.phase = .ignored ∧
    (∀ c ∈ [Instr.start, .controlMerge true, .registerWrite 0 [0, 0, 0, 0], .invalidOpcode 3 0], c.isServiceCommand = true) := by
  decide

theorem witness_ArbPolicyAppliesFromNextDecision :
    State.reset.porst = false ∧ (waiting lineWrite State.reset).porst = false ∧ resetWaiting.sp.resetPending = true := by
  decide

theorem witness_RegisterWritesSetOneFieldOrAreAnswered :
    ((0x0F : Byte).getLsbD 3 = (origin .up .synced).control.linkEnable ∧ (origin .up .synced).link.state ≠ .off ∧
      (origin .up .synced).control.linkEnable ≠ false ∧ (0x07 : Byte).getLsbD 3 = State.reset.control.linkEnable ∧
      State.reset.link.state = .off) ∧
    ((6 ≤ (0x06 : Byte).toNat ∧ (0x0B : Byte).toNat ≤ 11) ∧ (0x30 ≤ (0x30 : Byte).toNat ∧ (0x3C : Byte).toNat ≤ 0x3C) ∧
      (0x12 ≤ (0x12 : Byte).toNat ∧ (0x1F : Byte).toNat ≤ 0x1F) ∧ 0x3D ≤ (0x3D : Byte).toNat ∧
      (3 : Byte) ≠ 1 ∧ (3 : Byte) ≠ 2) ∧
    (readRegister 0x0A State.reset = some 0 ∧ readRegister 0xFF State.reset = none) ∧
    (([1, 2, 3] : List Byte).length < 4 ∧ State.reset.journal.wf = true ∧ State.reset.role = .origin ∧
      (replica .up .applying).role = .replica) := by decide

theorem witness_CauseWriteClearsWrittenOnes :
    ({ State.reset with causes := 0x1FFF } : State).hasCause .fence = true ∧ resetWaiting.sp.resetPending = true := by
  decide

theorem witness_IrqFollowsCausesAndEnables :
    State.reset.porst = false ∧ resetWaiting.sp.resetPending = true ∧
    ({ State.reset with causes := 0x1000, enables := 0x1000 } : State).irq = true := by decide

theorem witness_ConfigurationWritesAreJudged :
    ((origin .off .disabled).mirror.state = .disabled ∧ (replica .off .disabled).mirror.replica = .disabled ∧
      (origin .down .tracking).mirror.state ≠ .disabled ∧ (replica .connecting .listening).mirror.replica ≠ .disabled) ∧
    (State.reset.link.state = .off ∧ ((0x00200000 : Word).extractLsb' 16 6).toNat = 32 ∧
      ((0x00010000 : Word).extractLsb' 16 6).toNat = 1 ∧ ((0x00210000 : Word).extractLsb' 16 6).toNat = 33) ∧
    (((0x0001000A : Word).extractLsb' 0 12).toNat = 10 ∧ ((0x00010009 : Word).extractLsb' 0 12).toNat = 9) ∧
    (((0x00C82710 : Word).extractLsb' 0 14).toNat = 10000 ∧ ((0x00C82710 : Word).extractLsb' 16 16).toNat = 200) ∧
    (((0x00100200 : Word).extractLsb' 0 10).toNat = 512 ∧ ((0x00100200 : Word).extractLsb' 20 10).toNat = 1 ∧
      ((0x00100201 : Word).extractLsb' 0 10).toNat = 513) ∧
    (((0x00100000 : Word).extractLsb' 16 5).toNat = 16 ∧ ((0x00110000 : Word).extractLsb' 16 5).toNat = 17) := by decide

/-- The origin with one waiting report of each kind. -/
def reported (m : MirrorState) (marks : List RemovedMark) (r : MarkReport) : State :=
  { origin .up m with reports := ⟨[r], [marks], 0⟩ }

theorem witness_MarkAndAckReportsMoveTheMirrorState :
    ((reported .synced [] ⟨4, true⟩).reports.marks = ⟨4, true⟩ :: [] ∧ (reported .synced [] ⟨4, true⟩).mirror.state = .synced ∧
      (reported .synced [] ⟨4, false⟩).reports.marks = ⟨4, false⟩ :: [] ∧
      (reported .resyncing [] ⟨4, true⟩).mirror.state ≠ .synced) ∧
    ((reported .synced [] ⟨4, true⟩).reports.mirrorAcks = [] :: [] ∧
      (reported .synced [⟨7, 3, true⟩] ⟨4, true⟩).reports.mirrorAcks = [⟨7, 3, true⟩] :: [] ∧
      (reported .synced [] ⟨4, true⟩).mirror.pendingMark = none ∧ lastTimeout.mirror.drain = .appended ⟨7, true⟩ ∧
      (RemovedMark.mk 7 3 true).seq = (DrainMark.mk 7 true).seq ∧ (RemovedMark.mk 6 3 true).seq ≠ (DrainMark.mk 7 true).seq) ∧
    ((reported .synced [⟨6, 2, false⟩, ⟨7, 3, true⟩] ⟨4, true⟩).reports.mirrorAcks = [⟨6, 2, false⟩, ⟨7, 3, true⟩] :: [] ∧
      [RemovedMark.mk 6 2 false, ⟨7, 3, true⟩].getLast? = some ⟨7, 3, true⟩ ∧
      RemovedMark.mk 7 3 true ∈ [RemovedMark.mk 6 2 false, ⟨7, 3, true⟩]) ∧
    ((origin .up .resyncing).mirror.state = .resyncing ∧ (origin .up .resyncing).dirty.count = 0 ∧
      (origin .up .resyncing).journal.entries = []) := by decide

theorem witness_PendingMarkIsAppendedAtReport :
    ({ reported .synced [] ⟨4, true⟩ with mirror.pendingMark := some ⟨1, true⟩ } : State).mirror.pendingMark =
      some ⟨1, true⟩ ∧ (reported .synced [] ⟨4, true⟩).reports.mirrorAcks = [] :: [] ∧
    (reported .synced [⟨6, 2, false⟩, ⟨7, 3, true⟩] ⟨4, true⟩).reports.mirrorAcks = [⟨6, 2, false⟩, ⟨7, 3, true⟩] :: [] ∧
    (reported .synced [] ⟨4, true⟩).readyForSynced = false ∧ (reported .resyncing [] ⟨4, true⟩).readyForSynced = true ∧
    (reported .synced [] ⟨4, true⟩).journal.entries.length < 512 := by decide

theorem witness_SyncOutputFollowsStateAndFlag :
    (origin .up .synced).role = .origin ∧ (origin .up .synced).sync = true ∧ (replica .up .applying).role = .replica ∧
    resetWaiting.sp.resetPending = true := by decide

set_option maxRecDepth 60000 in
/-- Every invariant holds of a streaming origin and of an applying replica, so a step from either meets the
hypotheses of what every step keeps. -/
theorem witness_StepsKeep : ∀ s ∈ [origin .up .resyncing, inLine (.mark 4 true false) 1],
    s.journal.wf = true ∧ s.cfg.inRange = true ∧ s.journal.writesWf = true ∧ s.dirty.wf = true ∧ s.statesOk = true ∧
      s.buffersOk = true ∧ s.slotsOk = true ∧ s.portsOk = true ∧ s.linkOk = true ∧ s.windowOk = true ∧
      s.syncedOk = true ∧ s.fenceOk = true := by decide

theorem witness_StepsKeep_step : step (origin .up .resyncing) = .next (origin .up .resyncing) ∧
    step (replica .up .applying) = .next (replica .up .applying) := ⟨rfl, rfl⟩

theorem witness_FencedWritesNeverReachMemory :
    (replica .up .applying).fencing = true ∧ (atMemory lineWrite (replica .up .applying)).mem.systemAtMemory =
      some (memTransactionOf (recordOf lineWrite)) ∧ (replica .up .applying).mem.systemAtMemory = none := by decide

theorem witness_CapturedWriteIsAccountedFor :
    MemAnswer.error ∉ [MemAnswer.ok, .ok, .ok, .ok] ∧
    (atMemory lineWrite (origin .up .synced)).mem.phase = .busy (memTransactionOf (recordOf lineWrite)) .passed ∧
    (memTransactionOf (recordOf lineWrite)).owner = .system ∧ (recordOf lineWrite).kind.isWrite = true ∧
    (origin .up .synced).mirror.state ≠ .disabled ∧ (origin .up .synced).mirrored (recordOf lineWrite).address = true := by
  decide

end Sys2Proof.Tests
end

section
/-! Lines byte by byte: what a line made of bytes reads back, and the masked forms of R5 and R14. -/

namespace Sys2Proof.Machine

/-- Digit `k` of the number that bytes spell is byte `k`. -/
theorem ofLeBytes_digit (bs : List Byte) (k : Nat) (hk : k < bs.length) :
    ofLeBytes bs / 256 ^ k % 256 = bs[k].toNat := by
  induction bs generalizing k with
  | nil => simp at hk
  | cons b bs ih =>
    have hb := b.isLt
    cases k with
    | zero => simp [ofLeBytes]; omega
    | succ k =>
      have hshift : (b.toNat + 256 * ofLeBytes bs) / 256 ^ (k + 1) = ofLeBytes bs / 256 ^ k := by
        rw [pow_succ', ← Nat.div_div_eq_div_mul]
        congr 1
        omega
      simpa [ofLeBytes, hshift] using ih k (by simpa using hk)

theorem lineByte_toNat (l : Line) (k : Nat) : (lineByte l k).toNat = l.toNat / 256 ^ k % 256 := by
  rw [lineByte, BitVec.extractLsb'_toNat, Nat.shiftRight_eq_div_pow, pow_mul]
  norm_num

/-- A line made of bytes reads back as those bytes. -/
@[simp] theorem lineByte_lineOfBytes (f : Nat → Byte) (k : Nat) (hk : k < 16) : lineByte (lineOfBytes f) k = f k := by
  have hlt := ofLeBytes_lt ((List.range 16).map f)
  have hdigit := ofLeBytes_digit ((List.range 16).map f) k (by simpa using hk)
  rw [List.length_map, List.length_range, show 256 ^ 16 = 2 ^ 128 by norm_num] at hlt
  apply BitVec.eq_of_toNat_eq
  rw [lineByte_toNat, lineOfBytes, BitVec.toNat_ofNat, Nat.mod_eq_of_lt hlt, hdigit]
  simp

/-- Lines with the same sixteen bytes are equal. -/
theorem line_ext {l l' : Line} (h : ∀ k, k < 16 → lineByte l k = lineByte l' k) : l = l' := by
  apply BitVec.eq_of_getLsbD_eq
  intro i hi
  have hbit := congrArg (fun b => b.getLsbD (i % 8)) (h (i / 8) (by omega))
  simpa [lineByte, Nat.mod_lt, Nat.div_add_mod] using hbit

/-- Byte `k` of an overlay: the new one where the mask is set (R14). -/
theorem lineByte_overlayLine (mask : Mask) (new old : Line) (k : Nat) (hk : k < 16) :
    lineByte (overlayLine mask new old) k = if mask.getLsbD k then lineByte new k else lineByte old k :=
  lineByte_lineOfBytes _ k hk

/-- Byte `k` of a masked line: 0 where the mask is clear (R13). -/
theorem lineByte_maskedLine (mask : Mask) (data : Line) (k : Nat) (hk : k < 16) :
    lineByte (maskedLine mask data) k = if mask.getLsbD k then lineByte data k else 0 := by
  rw [maskedLine, lineByte_overlayLine _ _ _ _ hk]
  simp [lineByte]

/-- A masked line is in the form of R5. -/
theorem maskedLine_idem (mask : Mask) (data : Line) : maskedLine mask (maskedLine mask data) = maskedLine mask data := by
  apply line_ext
  intro k hk
  simp only [lineByte_maskedLine _ _ _ hk]
  split <;> rfl

/-- Captured bytes put over a line in form give a line in form under the joined masks (R5, R14). -/
theorem overlayLine_masked (m mask : Mask) (d data : Line) (h : d = maskedLine m d) :
    overlayLine mask data d = maskedLine (m ||| mask) (overlayLine mask data d) := by
  apply line_ext
  intro k hk
  have hd : m.getLsbD k = false → lineByte d k = 0 := by
    intro hm
    rw [h, lineByte_maskedLine m d k hk, hm]
    rfl
  simp only [lineByte_maskedLine _ _ _ hk, lineByte_overlayLine _ _ _ _ hk, BitVec.getLsbD_or]
  cases mask.getLsbD k
  · cases hm : m.getLsbD k
    · simpa using hd hm
    · simp
  · simp

/-- The line address of an address is a multiple of 16 (R49). -/
theorem lineAddress_low (a : Addr) : lineAddress a &&& 15#26 = 0#26 := by
  rw [lineAddress, BitVec.and_assoc]
  simp

end Sys2Proof.Machine
end

section
/-! Every step keeps the journal in form and the configuration in range (R4, R5, R9, R11, R20, R152, R184): one
relation between a state and the state after, which every operation of the part meets and which composes. -/

namespace Sys2Proof.Machine

/-- What an operation that leads from `s` to `t` keeps: the journal's form with the configuration ranges, and the
form of the WRITE entries. -/
structure KeepsForm (s t : State) : Prop where
  form : s.journal.wf = true → s.cfg.inRange = true → t.journal.wf = true ∧ t.cfg.inRange = true
  writes : s.journal.writesWf = true → t.journal.writesWf = true

namespace KeepsForm

theorem refl (s : State) : KeepsForm s s := ⟨fun hj hc => ⟨hj, hc⟩, id⟩

theorem trans {s t u : State} (h1 : KeepsForm s t) (h2 : KeepsForm t u) : KeepsForm s u :=
  ⟨fun hj hc => h2.form (h1.form hj hc).1 (h1.form hj hc).2, fun hw => h2.writes (h1.writes hw)⟩

/-- An operation on other parts of the state. -/
theorem of_same {s t : State} (hj : t.journal = s.journal) (hc : t.cfg = s.cfg) : KeepsForm s t :=
  ⟨fun h1 h2 => by rw [hj, hc]; exact ⟨h1, h2⟩, fun h => by rw [hj]; exact h⟩

/-- An operation behind one on other parts of the state. -/
theorem after {s t u : State} (h : KeepsForm t u) (hj : t.journal = s.journal) (hc : t.cfg = s.cfg) :
    KeepsForm s u :=
  (of_same hj hc).trans h

/-- An operation followed by one on other parts of the state. -/
theorem andThen {s t u : State} (h : KeepsForm s t) (hj : u.journal = t.journal) (hc : u.cfg = t.cfg) :
    KeepsForm s u :=
  h.trans (of_same hj hc)

/-- An operation on the journal alone. -/
theorem of_journal {s t : State} (hc : t.cfg = s.cfg)
    (hj : s.journal.wf = true → s.cfg.inRange = true → t.journal.wf = true)
    (hw : s.journal.writesWf = true → t.journal.writesWf = true) : KeepsForm s t :=
  ⟨fun h1 h2 => by rw [hc]; exact ⟨hj h1 h2, h2⟩, hw⟩

/-- An operation that leaves the journal empty. -/
theorem of_emptied {s t : State} (hc : t.cfg = s.cfg) (hj : t.journal = s.journal.emptied) : KeepsForm s t :=
  .of_journal hc (fun _ _ => by rw [hj]; exact Journal.wf_emptied _) (fun _ => by rw [hj]; rfl)

/-- A reset. -/
theorem of_reset {s t : State} (hj : t.journal = Journal.reset) (hc : t.cfg = Settings.defaults) : KeepsForm s t :=
  ⟨fun _ _ => by rw [hj, hc]; exact ⟨Journal.wf_reset, by decide⟩, fun _ => by rw [hj]; rfl⟩

end KeepsForm

theorem keepsForm_unlessPorst {f : State → State} (h : ∀ s, KeepsForm s (f s)) (s : State) :
    KeepsForm s (unlessPorst f s) := by
  unfold unlessPorst
  split
  · exact .refl s
  · exact h s

/-! ### WRITE entries in form -/

theorem writesWf_iff (j : Journal) : j.writesWf = true ↔ ∀ e ∈ j.entries, e.writeWf = true := by
  simp [Journal.writesWf]

theorem writesWf_of_mem {j k : Journal} (h : ∀ e ∈ k.entries, e ∈ j.entries) (hj : j.writesWf = true) :
    k.writesWf = true :=
  (writesWf_iff k).mpr fun e he => (writesWf_iff j).mp hj e (h e he)

/-- Entries changed in place by what keeps each in form. -/
theorem writesWf_modify (j : Journal) (n p : Nat) (f : Entry → Entry)
    (hf : ∀ e : Entry, e.writeWf = true → (f e).writeWf = true) (h : j.writesWf = true) :
    { j with entries := j.entries.modify n f, sendPoint := p }.writesWf = true := by
  rw [writesWf_iff] at h ⊢
  intro e he
  obtain ⟨i, hi⟩ := List.mem_iff_getElem?.mp he
  rw [List.getElem?_modify] at hi
  obtain ⟨e', he', rfl⟩ := Option.map_eq_some_iff.mp hi
  have hmem := h e' (List.mem_of_getElem? he')
  split
  · exact hf e' hmem
  · exact hmem

theorem Journal.writesWf_push (body : EntryBody) (j : Journal) (hb : ∀ q o, Entry.writeWf ⟨q, o, body⟩ = true)
    (h : j.writesWf = true) : (j.push body).writesWf = true := by
  rw [writesWf_iff] at h ⊢
  intro e he
  rcases List.mem_append.mp he with he | he
  · exact h e he
  · rw [List.mem_singleton.mp he]
    exact hb _ _

theorem mergeEntry_writeWf (mask : Mask) (data : Line) (e : Entry) (h : e.writeWf = true) :
    (mergeEntry mask data e).writeWf = true := by
  obtain ⟨q, o, body⟩ := e
  cases body with
  | write line m d =>
    simp only [Entry.writeWf, Bool.and_eq_true, beq_iff_eq] at h
    simp only [mergeEntry, Entry.writeWf, Bool.and_eq_true, beq_iff_eq]
    exact ⟨h.1, overlayLine_masked m mask d data h.2⟩
  | block n b st => exact h
  | mark n c d => exact h

theorem Journal.writesWf_merge (mask : Mask) (data : Line) (j : Journal) (h : j.writesWf = true) :
    (j.merge mask data).writesWf = true :=
  writesWf_modify j _ j.sendPoint _ (mergeEntry_writeWf mask data) h

theorem Journal.writesWf_loaded (j : Journal) (h : j.writesWf = true) : j.loaded.writesWf = true :=
  writesWf_modify j _ _ _ (fun _ he => he) h

theorem completeEntry_writeWf (seq : Seq) (b : Fin 4) (st : CopyStatus) (e : Entry) (h : e.writeWf = true) :
    (completeEntry seq b st e).writeWf = true := by
  unfold completeEntry
  split
  · split
    · rfl
    · exact h
  · exact h

theorem Journal.writesWf_completeBlock (seq : Seq) (b : Fin 4) (st : CopyStatus) (j : Journal)
    (h : j.writesWf = true) : (j.completeBlock seq b st).writesWf = true := by
  rw [writesWf_iff] at h ⊢
  intro e he
  obtain ⟨e', he', rfl⟩ := List.mem_map.mp he
  exact completeEntry_writeWf _ _ _ _ (h e' he')

theorem Journal.writesWf_acknowledged (n : Seq) (j : Journal) (h : j.writesWf = true) :
    (j.acknowledged n).writesWf = true :=
  writesWf_of_mem (fun _ he => List.mem_of_mem_drop he) h

/-- An appended WRITE entry is in form (R5, R13). -/
theorem writeBody_writeWf (a : Addr) (mask : Mask) (data : Line) (q : Seq) (o : Bool) :
    Entry.writeWf ⟨q, o, writeBody (lineAddress a) mask data⟩ = true := by
  simp [Entry.writeWf, writeBody, lineAddress_low, maskedLine_idem]

/-! ### The system port -/

/-- Below the high watermark, which is at most 512, the journal has room (R11, R52). -/
theorem full_of_belowWatermark {s : State} (hb : s.belowWatermark = true) (hc : s.cfg.inRange = true) :
    s.journal.full = false := by
  simp only [Settings.inRange, State.belowWatermark, decide_eq_true_eq] at hb hc
  have hlt : s.journal.occupancy < Config.journalCapacity := by
    unfold Config.journalCapacity
    omega
  simpa [Journal.full] using hlt

theorem keepsForm_mergeWrite (t : Transaction) (s : State) : KeepsForm s (mergeWrite t s) :=
  .of_journal rfl (fun h _ => Journal.wf_merge _ _ _ h) (Journal.writesWf_merge _ _ _)

theorem keepsForm_appendWrite (t : Transaction) (s : State)
    (hroom : s.belowWatermark = true ∨ s.journal.full = false) : KeepsForm s (appendWrite t s) :=
  .of_journal rfl
    (fun h hc => Journal.wf_push _ _ h (hroom.elim (fun hb => full_of_belowWatermark hb hc) id))
    (Journal.writesWf_push _ _ (writeBody_writeWf _ _ _))

theorem keepsForm_completeSystem {s s' : State} (t : Transaction) (code : Completion) (data : Line)
    (h : KeepsForm s s') : KeepsForm s (completeSystem t code data s') :=
  h.trans (.of_same rfl rfl)

theorem keepsForm_capture (t : Transaction) (s : State) : KeepsForm s (capture t s) := by
  unfold capture
  split
  · exact .of_same (by simp) (by simp)
  · split
    · exact keepsForm_completeSystem _ _ _ (keepsForm_mergeWrite t s)
    · split
      · split
        · rename_i hb
          exact keepsForm_completeSystem _ _ _ (keepsForm_appendWrite t s (.inl hb))
        · exact .of_same (by simp) (by simp)
      · split
        · exact .of_same (by simp) (by simp)
        · rename_i hf
          exact keepsForm_completeSystem _ _ _ (keepsForm_appendWrite t s (.inr (by simpa using hf)))

theorem keepsForm_systemAnswer (t : Transaction) (answer : MemAnswer) (data : Line) (s : State) :
    KeepsForm s (systemAnswer t answer data s) := by
  unfold systemAnswer originWriteOk
  cases answer with
  | error => exact .of_same rfl rfl
  | ok =>
    dsimp only
    split
    · split
      · split
        · exact keepsForm_capture _ s
        · exact .of_same rfl rfl
      · exact .of_same rfl rfl
    · exact .of_same rfl rfl

theorem keepsForm_systemMemoryAnswer (answer : MemAnswer) (data : Line) (s : State) :
    KeepsForm s (systemMemoryAnswer answer data s) := by
  unfold systemMemoryAnswer
  split
  · split
    · split
      · exact KeepsForm.after (keepsForm_systemAnswer _ _ _ _) rfl rfl
      · exact .of_same rfl rfl
    · exact .of_same (by simp) (by simp)
    · exact .of_same rfl rfl
    · exact .refl s
  · exact .refl s

theorem keepsForm_heldWriteAckReport (s : State) : KeepsForm s (heldWriteAckReport s) := by
  unfold heldWriteAckReport releaseIntoJournal releaseHeld
  split
  · exact .refl s
  · dsimp only
    split
    · split
      · rename_i t _ hb
        split
        · exact (keepsForm_mergeWrite t s).trans (.of_same rfl rfl)
        · exact (keepsForm_appendWrite t s (.inl hb)).trans (.of_same rfl rfl)
      · exact .of_same rfl rfl
    · exact .of_same rfl rfl

theorem keepsForm_masterTransaction (r : MasterRequest) (s : State) : KeepsForm s (masterTransaction r s) := by
  unfold masterTransaction
  dsimp only
  (repeat' split) <;> exact .of_same (by simp) (by simp)

theorem keepsForm_stallExpiry (s : State) : KeepsForm s (stallExpiry s) := by
  unfold stallExpiry
  (repeat' split) <;> exact .of_same (by simp) (by simp)

theorem keepsForm_completionTaken (s : State) : KeepsForm s (completionTaken s) := by
  unfold completionTaken
  split <;> exact .of_same rfl rfl

theorem keepsForm_srstAssert (s : State) : KeepsForm s (srstAssert s) := by
  unfold srstAssert
  split
  · exact .refl s
  · exact .of_same (by simp) (by simp)

/-! ### The copy engine -/

theorem keepsForm_examineCopy (s : State) : KeepsForm s (examineCopy s) := .of_same (by simp) (by simp)

theorem keepsForm_presentRead (s : State) : KeepsForm s (presentRead s) := .of_same (by simp) (by simp)

/-- A start that reserves does so in a journal with room (R16, R86). -/
theorem keepsForm_startTaken (b : Block) (s : State) : KeepsForm s (startTaken b s) := by
  unfold startTaken
  split
  · split
    · rename_i hroom
      refine KeepsForm.trans ?_ (keepsForm_presentRead _)
      exact .of_journal rfl (fun h _ => Journal.wf_push _ _ h (by simpa using hroom.2))
        (Journal.writesWf_push _ _ fun _ _ => rfl)
    · exact .of_same (by simp) (by simp)
  · exact .of_same (by simp) (by simp)

theorem keepsForm_takeCopyStart (s : State) : KeepsForm s (takeCopyStart s) := by
  unfold takeCopyStart
  split
  · dsimp only
    split
    · exact .of_same (by simp) (by simp)
    · refine KeepsForm.trans ?_ (keepsForm_examineCopy _)
      exact KeepsForm.after (keepsForm_startTaken _ _) rfl rfl
  · exact .refl s

theorem keepsForm_endCopy (r : CopyRecord) (s : State) : KeepsForm s (endCopy r s) := by
  have hj : (endCopy r s).journal =
      s.journal.completeBlock r.seq r.buffer (if r.poisoned then .poisoned else .ready) := by
    unfold endCopy
    dsimp only
    split <;> simp [*]
  refine .of_journal (by simp) (fun h _ => ?_) (fun h => ?_)
  · rw [hj]
    exact Journal.wf_completeBlock _ _ _ _ h
  · rw [hj]
    exact Journal.writesWf_completeBlock _ _ _ _ h

theorem keepsForm_takeLine (r : CopyRecord) (answer : MemAnswer) (data : Line) (s : State) :
    KeepsForm s (takeLine r answer data s) := by
  unfold takeLine
  dsimp only
  have hstore : KeepsForm s (match answer with
      | .ok => { s with copy := s.copy.storeLine r.buffer r.nextLine data }
      | .error => s) := by
    cases answer <;> exact .of_same rfl rfl
  split
  · exact hstore.trans (keepsForm_endCopy _ _)
  · exact hstore.trans (.of_same rfl rfl)

theorem keepsForm_lineReadAnswer (answer : MemAnswer) (data : Line) (s : State) :
    KeepsForm s (lineReadAnswer answer data s) := by
  unfold lineReadAnswer copyAnswer
  split
  · split
    · dsimp only
      split
      · split
        · refine KeepsForm.trans ?_ (keepsForm_presentRead _)
          exact KeepsForm.after (keepsForm_takeLine _ _ _ _) rfl rfl
        · exact .of_same (by simp) (by simp)
      · exact .of_same rfl rfl
    · exact .refl s
  · exact .refl s

theorem keepsForm_pacingExpiry (s : State) : KeepsForm s (pacingExpiry s) := by
  unfold pacingExpiry
  split <;> exact .of_same (by simp) (by simp)

/-! ### The transmitter and the apply engine -/

theorem keepsForm_takeLoad (e : Entry) (f : Frame) (s : State) (he : s.journal.entries[s.journal.sendPoint]? = some e)
    (hr : e.isReading = false) : KeepsForm s (takeLoad e f s) := by
  have hload : (takeLoad e f s).journal = s.journal.loaded := by
    unfold takeLoad
    dsimp only
    split <;> rfl
  refine .of_journal (by simp) (fun h _ => ?_) (fun h => ?_)
  · rw [hload]
    exact Journal.wf_loaded _ e h he hr
  · rw [hload]
    exact Journal.writesWf_loaded _ h

/-- A load takes an entry that gives a frame, so none that is READING (R20). -/
theorem keepsForm_offerLoad (s : State) : KeepsForm s (offerLoad s) := by
  unfold offerLoad
  split
  · split
    · rename_i e he
      split
      · rename_i f hf
        refine keepsForm_takeLoad e f s he ?_
        by_contra hr
        rw [(frameOf_none _ _ e).mpr (by simpa using hr)] at hf
        exact absurd hf (by simp)
      · exact .refl s
    · exact .refl s
  · exact .refl s

theorem keepsForm_frameBoundary (s : State) : KeepsForm s (frameBoundary s) := by
  unfold frameBoundary
  split <;> exact .of_same (by simp) (by simp)

theorem keepsForm_frameEnd (s : State) : KeepsForm s (frameEnd s) := by
  unfold frameEnd
  split <;> exact .of_same (by simp) (by simp)

theorem keepsForm_breakStart (s : State) : KeepsForm s (breakStart s) := by
  unfold breakStart
  (repeat' split) <;> exact .of_same rfl rfl

theorem keepsForm_breakEnd (s : State) : KeepsForm s (breakEnd s) := by
  unfold breakEnd
  split <;> exact .of_same rfl rfl

theorem keepsForm_applyTakeFrame (s : State) : KeepsForm s (applyTakeFrame s) := by
  unfold applyTakeFrame
  (repeat' split) <;> exact .of_same (by simp) (by simp)

theorem keepsForm_applyWriteAnswer (answer : MemAnswer) (s : State) : KeepsForm s (applyWriteAnswer answer s) := by
  unfold applyWriteAnswer
  (repeat' split) <;> exact .of_same (by simp) (by simp)

/-! ### The mirror controller -/

/-- A pending mark is appended to a journal with room (R112). -/
theorem keepsForm_appendPendingMark (s : State) : KeepsForm s (appendPendingMark s) := by
  unfold appendPendingMark
  split
  · split
    · exact .refl s
    · rename_i hf
      exact .of_journal rfl (fun h _ => Journal.wf_push _ _ h (by simpa using hf))
        (Journal.writesWf_push _ _ fun _ _ => rfl)
  · exact .refl s

theorem keepsForm_acceptMark (drain : Bool) (s : State) : KeepsForm s (acceptMark drain s) :=
  KeepsForm.after (keepsForm_appendPendingMark _) rfl rfl

theorem keepsForm_acceptDrain (s : State) : KeepsForm s (acceptDrain s) :=
  KeepsForm.after (keepsForm_acceptMark true _) rfl rfl

theorem keepsForm_checkSynced (s : State) : KeepsForm s (checkSynced s) := .of_same (by simp) (by simp)

theorem keepsForm_appendAndCheck (s : State) : KeepsForm s (appendAndCheck s) := by
  have hcount : KeepsForm s { s with choices := s.choices + 1 } := .of_same rfl rfl
  unfold appendAndCheck
  split
  · dsimp only
    split
    · exact (hcount.trans (keepsForm_checkSynced _)).trans (keepsForm_appendPendingMark _)
    · exact (hcount.trans (keepsForm_appendPendingMark _)).trans (keepsForm_checkSynced _)
  · exact (keepsForm_appendPendingMark s).trans (keepsForm_checkSynced _)

theorem keepsForm_mirrorAckReport (s : State) : KeepsForm s (mirrorAckReport s) := by
  unfold mirrorAckReport
  split
  · exact KeepsForm.after (keepsForm_appendAndCheck _) (by simp) (by simp)
  · exact .refl s

theorem keepsForm_dirtyMarkReport (s : State) : KeepsForm s (dirtyMarkReport s) := by
  unfold dirtyMarkReport
  split <;> exact .of_same (by simp) (by simp)

theorem keepsForm_markPin (level : Bool) (s : State) : KeepsForm s (markPin level s) := by
  have hpin : KeepsForm s { s with markPin := level } := .of_same rfl rfl
  unfold markPin markPinRequest
  dsimp only
  split
  · split
    · split
      · exact hpin.trans (keepsForm_acceptMark false _)
      · exact .of_same rfl rfl
    · exact hpin
  · exact hpin

theorem keepsForm_drainPin (level : Bool) (s : State) : KeepsForm s (drainPin level s) := by
  have hpin : KeepsForm s { s with drainPin := level } := .of_same rfl rfl
  have hlow : KeepsForm s (lowerDrained { s with drainPin := level }) := .of_same (by simp) (by simp)
  unfold drainPin drainPinRequest
  dsimp only
  split
  · split
    · split
      · exact hlow.trans (keepsForm_acceptDrain _)
      · exact hlow.trans (.of_same rfl rfl)
    · exact hpin
  · exact hpin

/-! ### Leaving UP -/

theorem keepsForm_reportLeftUp (s : State) : KeepsForm s (reportLeftUp s) := by
  unfold reportLeftUp
  split
  · rw [originLeftUp_eq]
    split
    · exact .of_emptied (by simp) (by simp)
    · exact .refl s
  · exact .of_same (by simp) (by simp)

theorem keepsForm_leaveUp (dest : LeaveTo) (withBreak counted : Bool) (s : State) :
    KeepsForm s (leaveUp dest withBreak counted s) := by
  unfold leaveUp
  dsimp only
  split <;> exact KeepsForm.after (keepsForm_reportLeftUp _) (by simp) (by simp)

theorem keepsForm_silenceExpiry (s : State) : KeepsForm s (silenceExpiry s) := by
  unfold silenceExpiry
  split
  · exact keepsForm_leaveUp _ _ _ s
  · exact .refl s

theorem keepsForm_takeBreakReport (s : State) : KeepsForm s (takeBreakReport s) := by
  unfold takeBreakReport
  split
  · exact keepsForm_leaveUp _ _ _ s
  · exact .refl s

theorem keepsForm_renewSession (s : State) : KeepsForm s (renewSession s) := by
  unfold renewSession
  split
  · exact keepsForm_leaveUp _ _ _ s
  · exact .refl s

theorem keepsForm_resetLink (s : State) : KeepsForm s (resetLink s) := by
  unfold resetLink
  split
  · exact keepsForm_leaveUp _ _ _ s
  · exact .of_same (by simp) (by simp)

theorem keepsForm_clearLinkEnable (s : State) : KeepsForm s (clearLinkEnable s) := by
  unfold clearLinkEnable
  dsimp only
  split
  · exact KeepsForm.after (keepsForm_leaveUp _ _ _ _) rfl rfl
  all_goals exact .of_same (by simp) (by simp)

/-! ### Frames received and the link's timers -/

theorem keepsForm_acknowledgeThrough (n : Seq) (s : State) : KeepsForm s (acknowledgeThrough n s) := by
  unfold acknowledgeThrough
  split
  · exact .refl s
  · refine .of_journal (by simp) (fun h _ => ?_) (fun h => ?_)
    · simpa using Journal.wf_acknowledged n _ h
    · simpa using Journal.writesWf_acknowledged n _ h

/-- A rewind moves the send point back or not at all (R23). -/
theorem rewindTo_journal (target : Seq) (s : State) :
    (rewindTo target s).journal =
      { s.journal with sendPoint := min (s.journal.rewindPoint target) s.journal.sendPoint } := by
  unfold rewindTo
  dsimp only
  split <;> rename_i h
  · rw [Nat.min_eq_left (Nat.le_of_lt h)]
    split <;> rfl
  · rw [Nat.min_eq_right (Nat.le_of_not_lt h)]
    split <;> rfl

theorem keepsForm_rewindTo (target : Seq) (s : State) : KeepsForm s (rewindTo target s) := by
  refine .of_journal (by simp) (fun h _ => ?_) (fun h => ?_)
  · rw [rewindTo_journal]
    exact Journal.wf_back _ _ h (Nat.min_le_right _ _)
  · rw [rewindTo_journal]
    exact h

theorem keepsForm_ackTimeoutStep (s : State) : KeepsForm s (ackTimeoutStep s) := by
  unfold ackTimeoutStep
  refine KeepsForm.trans (t := rewindTo s.journal.headSeq { s with link.ackTimer := none }) ?_ (.of_same rfl rfl)
  exact KeepsForm.after (keepsForm_rewindTo _ _) rfl rfl

theorem keepsForm_ackExpiry (s : State) : KeepsForm s (ackExpiry s) := by
  unfold ackExpiry
  split
  · dsimp only
    split
    · exact (keepsForm_ackTimeoutStep s).trans (keepsForm_leaveUp _ _ _ _)
    · exact keepsForm_ackTimeoutStep s
  · exact .refl s

theorem keepsForm_takeAck (f : Frame) (fault : Bool) (s : State) : KeepsForm s (takeAck f fault s) := by
  unfold takeAck
  split
  · dsimp only
    split
    · exact KeepsForm.after (keepsForm_acknowledgeThrough _ _) (by simp) (by simp)
    · exact .of_same (by simp) (by simp)
  · exact .of_same rfl rfl

theorem keepsForm_takeNak (f : Frame) (fault : Bool) (s : State) : KeepsForm s (takeNak f fault s) := by
  unfold takeNak
  split
  · dsimp only
    split
    · refine KeepsForm.after (t := reportReplicaFault fault (noteValidFrame f.session s)) ?_ (by simp) (by simp)
      exact (keepsForm_acknowledgeThrough _ _).trans (keepsForm_rewindTo _ _)
    · exact .of_same (by simp) (by simp)
  · exact .of_same rfl rfl

/-- A frame received keeps the form when its disposal does. -/
theorem keepsForm_receiveBytes {dispose : Frame → State → State} (h : ∀ f s, KeepsForm s (dispose f s))
    (bytes : List Byte) (s : State) : KeepsForm s (receiveBytes dispose bytes s) := by
  unfold receiveBytes
  split
  · split
    · exact .of_same (by simp) (by simp)
    · exact .of_same rfl rfl
    · exact .of_same rfl rfl
    · exact KeepsForm.after (h _ _) rfl rfl
  · exact .refl s

theorem keepsForm_disposeData (bytes : List Byte) (f : Frame) (s : State) : KeepsForm s (disposeData bytes f s) := by
  unfold disposeData
  split <;> exact .of_same (by simp) (by simp)

theorem keepsForm_disposeHello (f : Frame) (s : State) : KeepsForm s (disposeHello f s) := by
  unfold disposeHello
  split <;> exact .of_same (by simp) (by simp)

theorem keepsForm_disposeHelloAck (f : Frame) (s : State) : KeepsForm s (disposeHelloAck f s) := by
  unfold disposeHelloAck
  split <;> exact .of_same (by simp) (by simp)

theorem keepsForm_disposeAck (f : Frame) (s : State) : KeepsForm s (disposeAck f s) := by
  unfold disposeAck
  split
  · exact keepsForm_takeAck _ _ s
  · exact .refl s

theorem keepsForm_disposeNak (f : Frame) (s : State) : KeepsForm s (disposeNak f s) := by
  unfold disposeNak
  split
  · exact keepsForm_takeNak _ _ s
  · exact .refl s

theorem keepsForm_helloKeepaliveExpiry (s : State) : KeepsForm s (helloKeepaliveExpiry s) := by
  unfold helloKeepaliveExpiry
  dsimp only
  (repeat' split) <;> exact .of_same (by simp) (by simp)

theorem keepsForm_receiverAlign (s : State) : KeepsForm s (receiverAlign s) := by
  unfold receiverAlign
  split <;> exact .of_same rfl rfl

theorem keepsForm_rxFraming (c : FramingCheck) (s : State) : KeepsForm s (rxFraming c s) := by
  unfold rxFraming
  (repeat' split) <;> exact .of_same (by simp) (by simp)

theorem keepsForm_rxTruncation (s : State) : KeepsForm s (rxTruncation s) := by
  unfold rxTruncation
  split <;> exact .of_same (by simp) (by simp)

theorem keepsForm_breakDetected (s : State) : KeepsForm s (breakDetected s) := by
  unfold breakDetected
  split
  · exact .refl s
  · exact KeepsForm.after (keepsForm_takeBreakReport _) (by simp) (by simp)

/-! ### Resets and the service port -/

theorem keepsForm_takeSoftReset (pins : RequestPins) (selected : Bool) (s : State) :
    KeepsForm s (takeSoftReset pins selected s) := by
  unfold takeSoftReset
  split
  · exact .of_reset rfl rfl
  · exact .refl s

theorem keepsForm_porstDeassert (roleHigh : Bool) (pins : RequestPins) (selected : Bool) (s : State) :
    KeepsForm s (porstDeassert roleHigh pins selected s) := by
  unfold porstDeassert
  split <;> exact .of_same rfl rfl

theorem keepsForm_whenServed {f : State → State} (h : ∀ s, KeepsForm s (f s)) (s : State) :
    KeepsForm s (whenServed f s) := by
  unfold whenServed endTransaction
  split
  · exact .refl s
  · split
    · exact .of_same rfl rfl
    · refine KeepsForm.trans ?_ (h _)
      exact (keepsForm_takeSoftReset _ _ s).trans (.of_same (by rfl) (by rfl))

theorem keepsForm_respond {s s' : State} (r : Response) (h : KeepsForm s s') : KeepsForm s (respond r s') :=
  h.trans (.of_same rfl rfl)

theorem keepsForm_acceptIf {f : State → State} (ok : Bool) (h : ∀ s, KeepsForm s (f s)) (s : State) :
    KeepsForm s (acceptIf ok f s) := by
  unfold acceptIf
  split
  · exact keepsForm_respond _ (h s)
  · exact .of_same rfl rfl

theorem keepsForm_stopMirroring (s : State) : KeepsForm s (stopMirroring s) :=
  .of_emptied (by simp) (by simp [stopMirroring, discardJournal])

theorem keepsForm_startOrigin (s : State) : KeepsForm s (startOrigin s) :=
  KeepsForm.after (keepsForm_renewSession _) (by simp) (by simp)

theorem keepsForm_stopReplica (s : State) : KeepsForm s (stopReplica s) := by
  unfold stopReplica
  dsimp only
  split
  · exact KeepsForm.after (keepsForm_leaveUp _ _ _ _) (by simp) (by simp)
  · exact .of_same (by simp) (by simp)

theorem keepsForm_commandStart (s : State) : KeepsForm s (commandStart s) := by
  refine keepsForm_acceptIf _ (fun s => ?_) s
  split
  · exact keepsForm_startOrigin s
  · exact .of_same (by simp) (by simp)

theorem keepsForm_commandStop (s : State) : KeepsForm s (commandStop s) := by
  refine keepsForm_acceptIf _ (fun s => ?_) s
  split
  · exact (keepsForm_stopMirroring s).trans (keepsForm_renewSession _)
  · exact keepsForm_stopReplica s

theorem keepsForm_commandReseed (s : State) : KeepsForm s (commandReseed s) :=
  keepsForm_acceptIf _ (fun _ => .of_same (by simp) (by simp)) s

theorem keepsForm_commandPause (s : State) : KeepsForm s (commandPause s) :=
  keepsForm_acceptIf _ (fun _ => .of_same (by rfl) (by rfl)) s

theorem keepsForm_commandResync (s : State) : KeepsForm s (commandResync s) :=
  keepsForm_acceptIf _ (fun _ => .of_same (by simp) (by simp)) s

theorem keepsForm_commandMark (s : State) : KeepsForm s (commandMark s) :=
  keepsForm_acceptIf _ (keepsForm_acceptMark false) s

theorem keepsForm_commandDrain (s : State) : KeepsForm s (commandDrain s) := by
  have hlow : KeepsForm s (lowerDrained s) := .of_same (by simp) (by simp)
  unfold commandDrain
  dsimp only
  split
  · exact keepsForm_respond _ (hlow.trans (keepsForm_acceptDrain _))
  · split <;> exact keepsForm_respond _ hlow

theorem keepsForm_commandLinkReset (s : State) : KeepsForm s (commandLinkReset s) :=
  keepsForm_acceptIf _ keepsForm_resetLink s

theorem keepsForm_commandClearCounters (s : State) : KeepsForm s (commandClearCounters s) := .of_same rfl rfl

theorem keepsForm_commandSoftReset (s : State) : KeepsForm s (commandSoftReset s) := .of_same rfl rfl

theorem keepsForm_writeCommand (code : Byte) (s : State) : KeepsForm s (writeCommand code s) := by
  unfold writeCommand
  split; · exact keepsForm_commandStart s
  split; · exact keepsForm_commandStop s
  split; · exact keepsForm_commandReseed s
  split; · exact keepsForm_commandPause s
  split; · exact keepsForm_commandResync s
  split; · exact keepsForm_commandMark s
  split; · exact keepsForm_commandDrain s
  split; · exact keepsForm_commandLinkReset s
  split; · exact keepsForm_commandClearCounters s
  split; · exact keepsForm_commandSoftReset s
  exact .of_same rfl rfl

theorem keepsForm_setEnable (v : Bool) (s : State) : KeepsForm s (setEnable v s) := by
  unfold setEnable
  split
  · exact .of_same (by simp) (by simp)
  · exact keepsForm_clearLinkEnable s

theorem keepsForm_writeControl (v : Word) (s : State) : KeepsForm s (writeControl v s) :=
  keepsForm_respond _ (KeepsForm.after (keepsForm_setEnable _ _) (by simp) (by simp))

/-! ### Configuration writes: an accepted one is in range (R184) -/

theorem writeLinkcfg_inRange {v : Word} {c c' : Settings} (h : writeLinkcfg v c = some c') (hc : c.inRange = true) :
    c'.inRange = true := by
  unfold writeLinkcfg at h
  dsimp only at h
  split at h
  · rename_i hv
    obtain rfl := Option.some.inj h
    simp only [Settings.inRange, decide_eq_true_eq] at hc ⊢
    exact ⟨hv.1, hv.2, hc.2.2⟩
  · exact absurd h (by simp)

theorem writeAckcfg_inRange {v : Word} {c c' : Settings} (h : writeAckcfg v c = some c') (hc : c.inRange = true) :
    c'.inRange = true := by
  unfold writeAckcfg at h
  dsimp only at h
  split at h
  · rename_i hv
    obtain rfl := Option.some.inj h
    simp only [Settings.inRange, decide_eq_true_eq] at hc ⊢
    omega
  · exact absurd h (by simp)

theorem writeKeepcfg_inRange {v : Word} {c c' : Settings} (h : writeKeepcfg v c = some c') (hc : c.inRange = true) :
    c'.inRange = true := by
  unfold writeKeepcfg at h
  dsimp only at h
  split at h
  · rename_i hv
    obtain rfl := Option.some.inj h
    simp only [Settings.inRange, decide_eq_true_eq] at hc ⊢
    omega
  · exact absurd h (by simp)

theorem writePacecfg_inRange {v : Word} {c c' : Settings} (h : writePacecfg v c = some c') (hc : c.inRange = true) :
    c'.inRange = true := by
  unfold writePacecfg at h
  dsimp only at h
  split at h
  · rename_i hv
    obtain rfl := Option.some.inj h
    simp only [Settings.inRange, decide_eq_true_eq] at hc ⊢
    omega
  · exact absurd h (by simp)

theorem writeCopycfg_inRange {v : Word} {c c' : Settings} (h : writeCopycfg v c = some c') (hc : c.inRange = true) :
    c'.inRange = true := by
  unfold writeCopycfg at h
  dsimp only at h
  split at h
  · rename_i hv
    obtain rfl := Option.some.inj h
    simp only [Settings.inRange, decide_eq_true_eq] at hc ⊢
    omega
  · exact absurd h (by simp)

theorem keepsForm_writeSettings {c : Option Settings} {s : State}
    (h : ∀ c', c = some c' → s.cfg.inRange = true → c'.inRange = true) : KeepsForm s (writeSettings c s) := by
  cases c with
  | none => exact .of_same rfl rfl
  | some c' => exact ⟨fun hj hc => ⟨hj, h c' rfl hc⟩, id⟩

theorem keepsForm_writeCopySettings {c : Option Settings} {s : State}
    (h : ∀ c', c = some c' → s.cfg.inRange = true → c'.inRange = true) : KeepsForm s (writeCopySettings c s) := by
  cases c with
  | none => exact .of_same rfl rfl
  | some c' =>
    refine keepsForm_respond _ ⟨fun hj hc => ?_, fun hw => ?_⟩
    · simpa using ⟨hj, h c' rfl hc⟩
    · simpa using hw

theorem keepsForm_writeLinkcfgRegister (v : Word) (s : State) : KeepsForm s (writeLinkcfgRegister v s) := by
  unfold writeLinkcfgRegister
  split
  · exact keepsForm_writeSettings fun _ => writeLinkcfg_inRange
  · exact .of_same rfl rfl

theorem keepsForm_writeAckcfgRegister (v : Word) (s : State) : KeepsForm s (writeAckcfgRegister v s) :=
  keepsForm_writeSettings fun _ => writeAckcfg_inRange

theorem keepsForm_writeKeepcfgRegister (v : Word) (s : State) : KeepsForm s (writeKeepcfgRegister v s) :=
  keepsForm_writeSettings fun _ => writeKeepcfg_inRange

theorem keepsForm_writePacecfgRegister (v : Word) (s : State) : KeepsForm s (writePacecfgRegister v s) :=
  keepsForm_writeCopySettings fun _ => writePacecfg_inRange

theorem keepsForm_writeCopycfgRegister (v : Word) (s : State) : KeepsForm s (writeCopycfgRegister v s) :=
  keepsForm_writeCopySettings fun _ => writeCopycfg_inRange

theorem keepsForm_writeRegionRegister (n : Fin 8) (half : RegionHalf) (v : Word) (s : State) :
    KeepsForm s (writeRegionRegister n half v s) :=
  keepsForm_acceptIf _ (fun _ => .of_same (by rfl) (by rfl)) s

/-! ### Transactions of the service port, byte by byte -/

theorem keepsForm_writeRegister (index : Byte) (v : Word) (s : State) : KeepsForm s (writeRegister index v s) := by
  unfold writeRegister
  split; · exact keepsForm_writeControl v s
  split; · exact keepsForm_writeCommand _ s
  split; · exact .of_same rfl rfl
  split; · exact .of_same rfl rfl
  split; · exact keepsForm_writeLinkcfgRegister v s
  split; · exact keepsForm_writeAckcfgRegister v s
  split; · exact keepsForm_writeKeepcfgRegister v s
  split; · exact keepsForm_writePacecfgRegister v s
  split; · exact keepsForm_writeCopycfgRegister v s
  split
  · exact keepsForm_writeRegionRegister _ _ v s
  · split <;> exact .of_same rfl rfl

theorem keepsForm_clockByte (b : Byte) (s : State) : KeepsForm s (clockByte b s) := by
  unfold clockByte
  split
  case h_2 => exact .of_same (by simp) (by simp)
  case h_3 =>
    split
    · exact .of_same rfl rfl
    · unfold takeAtDataEnd
      split
      · exact keepsForm_writeRegister _ _ s
      · exact .of_same rfl rfl
  all_goals exact .of_same rfl rfl

theorem keepsForm_clockHead (opcode index : Byte) (s : State) : KeepsForm s (clockHead opcode index s) :=
  (keepsForm_clockByte opcode s).trans (keepsForm_clockByte index _)

theorem keepsForm_clockBytes (data : List Byte) (s : State) :
    KeepsForm s (data.foldl (fun s b => clockByte b s) s) := by
  induction data generalizing s with
  | nil => exact .refl s
  | cons b bs ih => exact (keepsForm_clockByte b s).trans (ih _)

theorem keepsForm_writeTransaction (index : Byte) (data : List Byte) (s : State) :
    KeepsForm s (writeTransaction index data s) := by
  have hclocked := (keepsForm_clockHead 0x02 index s).trans (keepsForm_clockBytes data _)
  unfold writeTransaction
  dsimp only
  split
  · exact hclocked.trans (.of_same rfl rfl)
  · exact hclocked

/-! ### The step -/

/-- Every command keeps the form. -/
theorem keepsForm_exec (c : Instr) (s t : State) (h : exec c s = .next t) : KeepsForm s t := by
  cases c <;> obtain rfl := (Host.Outcome.next.inj h)
  case masterTransaction r => exact keepsForm_unlessPorst (keepsForm_masterTransaction r) s
  case memoryReady => exact .of_same rfl rfl
  case systemMemoryAnswer beats data => exact keepsForm_systemMemoryAnswer _ data s
  case completionTaken => exact keepsForm_unlessPorst keepsForm_completionTaken s
  case stallTimerExpiry => exact keepsForm_unlessPorst keepsForm_stallExpiry s
  case heldWriteAckReport => exact keepsForm_unlessPorst keepsForm_heldWriteAckReport s
  case dirtyMarkReport => exact keepsForm_unlessPorst keepsForm_dirtyMarkReport s
  case mirrorAckReport => exact keepsForm_unlessPorst keepsForm_mirrorAckReport s
  case copyStart => exact keepsForm_unlessPorst keepsForm_takeCopyStart s
  case copyPacingTimerExpiry => exact keepsForm_unlessPorst keepsForm_pacingExpiry s
  case lineReadAnswer beats data => exact keepsForm_lineReadAnswer _ data s
  case load => exact keepsForm_unlessPorst keepsForm_offerLoad s
  case frameBoundary => exact keepsForm_unlessPorst keepsForm_frameBoundary s
  case frameEnd => exact keepsForm_unlessPorst keepsForm_frameEnd s
  case breakStart => exact keepsForm_unlessPorst keepsForm_breakStart s
  case breakEnd => exact keepsForm_unlessPorst keepsForm_breakEnd s
  case receiverAlign => exact keepsForm_unlessPorst keepsForm_receiverAlign s
  case rxFraming c => exact keepsForm_unlessPorst (keepsForm_rxFraming c) s
  case rxTruncation => exact keepsForm_unlessPorst keepsForm_rxTruncation s
  case dataFrameReceived bytes =>
    exact keepsForm_unlessPorst (keepsForm_receiveBytes (keepsForm_disposeData bytes) bytes) s
  case helloReceived bytes => exact keepsForm_unlessPorst (keepsForm_receiveBytes keepsForm_disposeHello bytes) s
  case helloAckReceived bytes => exact keepsForm_unlessPorst (keepsForm_receiveBytes keepsForm_disposeHelloAck bytes) s
  case ackReceived bytes => exact keepsForm_unlessPorst (keepsForm_receiveBytes keepsForm_disposeAck bytes) s
  case nakReceived bytes => exact keepsForm_unlessPorst (keepsForm_receiveBytes keepsForm_disposeNak bytes) s
  case helloKeepaliveTimerExpiry => exact keepsForm_unlessPorst keepsForm_helloKeepaliveExpiry s
  case silenceTimerExpiry => exact keepsForm_unlessPorst keepsForm_silenceExpiry s
  case ackTimerExpiry => exact keepsForm_unlessPorst keepsForm_ackExpiry s
  case breakDetected => exact keepsForm_unlessPorst keepsForm_breakDetected s
  case applyTakeFrame => exact keepsForm_unlessPorst keepsForm_applyTakeFrame s
  case applyWriteAnswer beats => exact keepsForm_applyWriteAnswer _ s
  case start => exact keepsForm_whenServed keepsForm_commandStart s
  case stop => exact keepsForm_whenServed keepsForm_commandStop s
  case reseed => exact keepsForm_whenServed keepsForm_commandReseed s
  case pause => exact keepsForm_whenServed keepsForm_commandPause s
  case resync => exact keepsForm_whenServed keepsForm_commandResync s
  case mark => exact keepsForm_whenServed keepsForm_commandMark s
  case markPinEdge level => exact keepsForm_unlessPorst (keepsForm_markPin level) s
  case drain => exact keepsForm_whenServed keepsForm_commandDrain s
  case drainPinEdge level => exact keepsForm_unlessPorst (keepsForm_drainPin level) s
  case linkReset => exact keepsForm_whenServed keepsForm_commandLinkReset s
  case clearCounters => exact keepsForm_whenServed keepsForm_commandClearCounters s
  case softReset => exact keepsForm_whenServed keepsForm_commandSoftReset s
  case softResetTaken pins selected => exact keepsForm_unlessPorst (keepsForm_takeSoftReset pins selected) s
  case unknownCommand code => exact keepsForm_whenServed (keepsForm_writeCommand code) s
  case controlMerge v => exact keepsForm_whenServed (fun _ => .of_same (by rfl) (by rfl)) s
  case controlArb v => exact keepsForm_whenServed (fun _ => .of_same (by rfl) (by rfl)) s
  case controlPace v => exact keepsForm_whenServed (fun _ => .of_same (by rfl) (by rfl)) s
  case controlLinkEnable v => exact keepsForm_whenServed (fun s => keepsForm_respond _ (keepsForm_setEnable v s)) s
  case cause v => exact keepsForm_whenServed (fun _ => .of_same (by rfl) (by rfl)) s
  case enable v => exact keepsForm_whenServed (fun _ => .of_same (by rfl) (by rfl)) s
  case linkcfg v => exact keepsForm_whenServed (keepsForm_writeLinkcfgRegister v) s
  case keepcfg v => exact keepsForm_whenServed (keepsForm_writeKeepcfgRegister v) s
  case ackcfg v => exact keepsForm_whenServed (keepsForm_writeAckcfgRegister v) s
  case pacecfg v => exact keepsForm_whenServed (keepsForm_writePacecfgRegister v) s
  case copycfg v => exact keepsForm_whenServed (keepsForm_writeCopycfgRegister v) s
  case region n half v => exact keepsForm_whenServed (keepsForm_writeRegionRegister n half v) s
  case registerWrite index data => exact keepsForm_whenServed (keepsForm_writeTransaction index data) s
  case invalidOpcode opcode index => exact keepsForm_whenServed (keepsForm_clockHead opcode index) s
  case srstAssert => exact keepsForm_srstAssert s
  case srstDeassert => exact .of_same rfl rfl
  case porstAssert => exact .of_reset rfl rfl
  case porstDeassert role pins selected => exact keepsForm_porstDeassert role pins selected s

/-- Every step keeps the form. -/
theorem keepsForm_step (s t : State) (h : step s = .next t) : KeepsForm s t := by
  unfold step at h
  split at h
  · obtain rfl := Host.Outcome.next.inj h
    exact .of_same (by simp) (by simp)
  · exact KeepsForm.after (keepsForm_exec _ _ t h) rfl rfl

/-- Settles O52: the form is kept by each command, and so by the step. -/
theorem stepsKeepJournalForm : Obligations.StepsKeepJournalForm := by
  unfold Obligations.StepsKeepJournalForm
  exact ⟨fun s t h => (keepsForm_step s t h).form, fun s t h => (keepsForm_step s t h).writes⟩

end Sys2Proof.Machine
end

section
/-! The capture point (R50) and the merge (R14). -/

namespace Sys2Proof.Machine

/-! ### The examination of the copy engine -/

/-- Outside RESYNCING the examination decides nothing (R82). -/
theorem examineCopy_of_ne (s : State) (h : s.mirror.state ≠ .resyncing) : examineCopy s = s := by
  simp [examineCopy, State.mayDecideCopy, h]

/-- The examination looks at nothing of the system port. -/
theorem completeSystem_examineCopy (t : Transaction) (code : Completion) (data : Line) (s : State) :
    completeSystem t code data (examineCopy s) = examineCopy (completeSystem t code data s) := by
  have hsame : (completeSystem t code data s).mayDecideCopy = s.mayDecideCopy := rfl
  unfold examineCopy
  rw [hsame]
  split <;> rfl

/-! ### An answer on its way to the capture point -/

/-- An answer without an ERROR beat is OK (R67). -/
theorem wholeAnswer_ok {beats : List MemAnswer} (h : MemAnswer.error ∉ beats) : wholeAnswer beats = .ok := if_neg h

/-- An ERROR on any beat makes the whole an ERROR (R67). -/
theorem wholeAnswer_error {beats : List MemAnswer} (h : MemAnswer.error ∈ beats) : wholeAnswer beats = .error := if_pos h

/-- A mirrored write of an origin outside DISABLED that memory answers OK comes to the capture point (R48, R49). -/
theorem exec_systemMemoryAnswer_capture {m : MemTransaction} {t : Transaction} {oks : List MemAnswer} {s : State}
    (data : Line) (hoks : MemAnswer.error ∉ oks) (hbusy : s.mem.phase = .busy m .passed) (howner : m.owner = .system)
    (hphase : s.sys.phase = .atMemory t) (hwrite : t.kind.isWrite = true) (hrole : s.role = .origin)
    (hmirrored : s.mirrored t.address = true) (hstate : s.mirror.state ≠ .disabled) :
    exec (.systemMemoryAnswer oks data) s =
      .next (capture { t with lookup := some true } { s with mem := s.mem.answered }) := by
  have hanswer : systemAnswer t .ok data { s with mem := s.mem.answered } =
      originWriteOk t { s with mem := s.mem.answered } := by
    simp [systemAnswer, hwrite, hrole]
  have hlookup : State.mirrored { s with mem := s.mem.answered } t.address = true := hmirrored
  simp only [exec, execSystemMemoryAnswer, systemMemoryAnswer, hbusy, howner, hphase, wholeAnswer_ok hoks, hanswer,
    originWriteOk, hlookup, ne_eq, hstate, not_false_eq_true, and_self, if_true]

/-! ### The cases of R50 -/

theorem capture_tracking (t : Transaction) (s : State) (h : s.mirror.state = .tracking) :
    capture t s = completeSystem t .ok 0 (markDirty (blockOf t.address) s) := by
  rw [capture, if_pos h, markWrite, examineCopy_of_ne _ (by simp [h])]

theorem capture_merge (t : Transaction) (s : State) (h : s.mirror.state ≠ .tracking)
    (hm : s.mayMerge (lineAddress t.address) = true) : capture t s = completeSystem t .ok 0 (mergeWrite t s) := by
  rw [capture, if_neg h, if_pos hm]

theorem capture_append (t : Transaction) (s : State) (h : s.mirror.state ≠ .tracking)
    (hm : s.mayMerge (lineAddress t.address) = false)
    (hroom : (s.control.pace = .stall ∧ s.journal.entries.length < s.cfg.highWatermark.toNat) ∨
      (s.control.pace = .track ∧ s.journal.entries.length < 512)) :
    capture t s = completeSystem t .ok 0 (appendWrite t s) := by
  rw [capture, if_neg h, hm]
  rcases hroom with ⟨hp, hlt⟩ | ⟨hp, hlt⟩
  · have hbelow : s.belowWatermark = true := decide_eq_true hlt
    simp [hp, hbelow]
  · have hfull : s.journal.full = false := decide_eq_false (Nat.not_le_of_lt hlt)
    simp [hp, hfull]

theorem capture_full (t : Transaction) (s : State) (h : s.mirror.state ≠ .tracking)
    (hm : s.mayMerge (lineAddress t.address) = false) (hp : s.control.pace = .track)
    (hle : 512 ≤ s.journal.entries.length) :
    capture t s = examineCopy (completeSystem t .ok 0 (markDirty (blockOf t.address) s)) := by
  have hfull : s.journal.full = true := decide_eq_true hle
  simp [capture, h, hm, hp, hfull, markWrite, completeSystem_examineCopy]

theorem capture_hold (t : Transaction) (s : State) (h : s.mirror.state ≠ .tracking)
    (hm : s.mayMerge (lineAddress t.address) = false) (hp : s.control.pace = .stall)
    (hle : s.cfg.highWatermark.toNat ≤ s.journal.entries.length) : capture t s = holdWrite t s := by
  have hbelow : s.belowWatermark = false := decide_eq_false (Nat.not_lt_of_le hle)
  simp [capture, h, hm, hp, hbelow]

/-- Settles O10: the answer comes to the capture point, and each case of R50 is the one taken. -/
theorem capturePointTakesFirstCase : Obligations.CapturePointTakesFirstCase := by
  unfold Obligations.CapturePointTakesFirstCase
  intro m t oks data s hoks hbusy howner hphase hwrite hrole hmirrored
  have hexec := fun hstate => exec_systemMemoryAnswer_capture (s := s) data hoks hbusy howner hphase hwrite hrole hmirrored hstate
  refine ⟨_, rfl, fun htracking => ?_, fun hstream => ?_⟩
  · exact (hexec (by simp [htracking])).trans (congrArg _ (capture_tracking _ _ htracking))
  · have hdisabled : s.mirror.state ≠ .disabled := by rcases hstream with h | h <;> simp [h]
    have htracking : s.mirror.state ≠ .tracking := by rcases hstream with h | h <;> simp [h]
    rw [hexec hdisabled]
    refine ⟨fun hm => ?_, fun hm => ⟨fun hroom => ?_, fun hp hle => ?_, fun hp hle => ?_⟩⟩
    · exact congrArg _ (capture_merge _ _ htracking hm)
    · exact congrArg _ (capture_append _ _ htracking hm hroom)
    · exact congrArg _ (capture_full _ _ htracking hm hp hle)
    · exact congrArg _ (capture_hold _ _ htracking hm hp hle)

/-! ### The merge -/

theorem mayMerge_iff (s : State) (line : Addr) : s.mayMerge line = true ↔
    ∃ (e : Entry) (m : Mask) (d : Line), s.journal.entries.getLast? = some e ∧ e.body = .write line m d ∧
      e.sentOnce = false ∧ (∀ f, s.tx.buffer = some f → f.seq ≠ e.seq) ∧ s.control.merge = true := by
  have hbuffered : ∀ e : Entry, isBuffered s.tx.buffer e = false ↔ ∀ f, s.tx.buffer = some f → f.seq ≠ e.seq := by
    intro e
    cases hb : s.tx.buffer <;> simp [isBuffered]
  unfold State.mayMerge Journal.mergeEligible Journal.tail?
  cases htail : s.journal.entries.getLast? with
  | none => simp
  | some e =>
    cases hbody : e.body with
    | write l m d => simp [hbody, ← hbuffered]; tauto
    | block n b st => simp [hbody]
    | mark n c d => simp [hbody]

/-- Settles O14. -/
theorem mergeFoldsIntoUnsentTail : Obligations.MergeFoldsIntoUnsentTail := by
  unfold Obligations.MergeFoldsIntoUnsentTail
  refine ⟨mayMerge_iff, fun j front q sent line m mask d data hj => ⟨overlayLine mask data d, ?_, fun k hk => ?_⟩⟩
  · have hlast : (front ++ [(⟨q, sent, .write line m d⟩ : Entry)]).length - 1 = front.length := by simp
    rw [Journal.merge, hj, hlast]
    simp [List.modify_eq_take_drop, mergeEntry]
  · exact lineByte_overlayLine _ _ _ _ hk

end Sys2Proof.Machine
end

section
/-! Loads (R18 to R20, R150), acknowledge-through (R21) and rewind (R23). -/

namespace Sys2Proof.Machine

/-! ### The load -/

theorem mayLoad_iff (s : State) : s.mayLoad = true ↔
    s.role = .origin ∧ s.link.state = .up ∧ s.tx.buffer = none ∧ s.journal.sendPoint < s.cfg.window.toNat := by
  simp only [State.mayLoad, Bool.and_eq_true, beq_iff_eq, Option.isNone_iff_eq_none, decide_eq_true_eq, and_assoc]
  rfl

theorem exec_load (s : State) (hp : s.porst = false) : exec .load s = .next (offerLoad s) := by
  simp [exec, execLoad, unlessPorst, hp]

/-- The journal after a load of the entry at the send point (R18). -/
theorem Journal.loaded_eq {j : Journal} {e : Entry} (h : j.entries[j.sendPoint]? = some e) :
    j.loaded = { j with
      entries := j.entries.set j.sendPoint { e with sentOnce := true }
      sendPoint := j.sendPoint + 1 } := by
  simp [Journal.loaded, List.modify_eq_set_getElem?, h]

theorem offerLoad_some {s : State} {e : Entry} {f : Frame} (hm : s.mayLoad = true)
    (he : s.journal.entries[s.journal.sendPoint]? = some e) (hf : frameOf s.link.session s.copy.buffers e = some f) :
    offerLoad s = takeLoad e f s := by
  simp [offerLoad, hm, he, hf]

/-- The effect of a load in one expression (R18, R190). -/
theorem takeLoad_eq {s : State} {e : Entry} (f : Frame) (he : s.journal.entries[s.journal.sendPoint]? = some e) :
    takeLoad e f s = { s with
      tx.buffer := some f
      journal := { s.journal with
        entries := s.journal.entries.set s.journal.sendPoint { e with sentOnce := true }
        sendPoint := s.journal.sendPoint + 1 }
      counters := if e.sentOnce then s.counted .retransmits else s.counters } := by
  rw [← Journal.loaded_eq he]
  unfold takeLoad
  cases e.sentOnce <;> rfl

/-- Nothing is loaded when a condition of R150 fails, at the end, or at a READING entry (R18, R20). -/
theorem offerLoad_stopped {s : State} (h : s.mayLoad = false ∨ s.journal.entries[s.journal.sendPoint]? = none ∨
    ∃ e, s.journal.entries[s.journal.sendPoint]? = some e ∧ e.isReading = true) : offerLoad s = s := by
  unfold offerLoad
  rcases h with h | h | ⟨e, h, hr⟩
  · simp [h]
  · simp [h]
  · simp [h, (frameOf_none _ _ e).mpr hr]

/-- Settles O15: the entry at the send point gives its frame, or the load is stopped. -/
theorem loadTakesSendPointEntry : Obligations.LoadTakesSendPointEntry := by
  unfold Obligations.LoadTakesSendPointEntry
  intro s hp
  rw [exec_load s hp]
  refine ⟨fun e body hrole hup hbuffer hwindow he hbody => ?_, fun hstop => ?_⟩
  · have hm : s.mayLoad = true := (mayLoad_iff s).mpr ⟨hrole, hup, hbuffer, hwindow⟩
    have hframe : frameOf s.link.session s.copy.buffers e = some ⟨s.link.session, e.seq, body⟩ := by
      rcases hbody with ⟨l, m, d, he, rfl⟩ | ⟨n, b, he, rfl⟩ | ⟨n, b, he, rfl⟩ | ⟨n, c, d, he, rfl⟩ <;>
        simp [frameOf, he]
    rw [offerLoad_some hm he hframe, takeLoad_eq _ he]
  · refine congrArg _ (offerLoad_stopped ?_)
    rw [← Bool.not_eq_true, mayLoad_iff]
    rcases hstop with h | h | h | h | h | ⟨e, n, b, he, hr⟩
    · exact .inl fun hc => by simp [h] at hc
    · exact .inl fun hc => h hc.2.1
    · exact .inl fun hc => by simp [hc.2.2.1] at h
    · exact .inl fun hc => absurd hc.2.2.2 (Nat.not_lt_of_le h)
    · exact .inr (.inl h)
    · exact .inr (.inr ⟨e, he, by simp [Entry.isReading, hr]⟩)

/-! ### Acknowledge-through -/

theorem acknowledgedBy_iff (n : Seq) (e : Entry) :
    e.acknowledgedBy n = true ↔ e.sentOnce = true ∧ (precedes e.seq n = true ∨ e.seq = n) := by
  simp [Entry.acknowledgedBy, atOrBefore, and_comm]

/-- The first element past the longest run that meets a condition does not meet it. -/
theorem getElem?_length_takeWhile {α : Type} (p : α → Bool) (l : List α) (a : α)
    (h : l[(l.takeWhile p).length]? = some a) : p a = false := by
  induction l with
  | nil => simp at h
  | cons b l ih =>
    cases hb : p b with
    | false =>
      rw [List.takeWhile_cons_of_neg (by simp [hb])] at h
      obtain rfl : b = a := by simpa using h
      exact hb
    | true =>
      rw [List.takeWhile_cons_of_pos hb] at h
      exact ih (by simpa using h)

/-- What is removed is the front of the journal. -/
theorem Journal.removedBy_eq_take (n : Seq) (j : Journal) :
    j.removedBy n = j.entries.take (j.removedBy n).length :=
  List.prefix_iff_eq_take.mp (List.takeWhile_prefix _)

theorem Journal.acknowledged_lastAcked_none (n : Seq) (j : Journal) (h : (j.removedBy n).length = 0) :
    (j.acknowledged n).lastAcked = j.lastAcked := by
  simp [Journal.acknowledged, List.eq_nil_of_length_eq_zero h]

/-- The youngest removed entry gives the last acknowledged number (R21). -/
theorem Journal.acknowledged_lastAcked_some (n : Seq) (j : Journal) (e : Entry) (h : 0 < (j.removedBy n).length)
    (he : j.entries[(j.removedBy n).length - 1]? = some e) : (j.acknowledged n).lastAcked = e.seq := by
  have hlast : (j.removedBy n).getLast? = some e := by
    rw [List.getLast?_eq_getElem?, ← he]
    conv_lhs => rw [j.removedBy_eq_take n]
    have hlen := j.removedBy_length_le n
    rw [List.getElem?_take_of_lt (by simp; omega), List.length_take, Nat.min_eq_left hlen]
  simp [Journal.acknowledged, hlast]

/-! ### Send sequence and in-flight count -/

/-- The send sequence is the counter less the entries from the send point on (R9, R12). -/
theorem Journal.sendSeq_eq (j : Journal) (h : j.wf = true) :
    j.sendSeq = j.nextSeq - BitVec.ofNat 32 (j.entries.length - j.sendPoint) := by
  obtain ⟨-, hsend, hconsec, -⟩ := (Journal.wf_iff j).mp h
  unfold Journal.sendSeq
  by_cases hlt : j.sendPoint < j.entries.length
  · rw [List.getElem?_eq_getElem hlt]
    exact consecutive_getElem _ _ hconsec _ hlt
  · rw [List.getElem?_eq_none (by omega), Nat.sub_eq_zero_of_le (by omega)]
    simp

theorem Journal.entries_length_le (j : Journal) (h : j.wf = true) : j.entries.length ≤ 512 :=
  ((Journal.wf_iff j).mp h).1

theorem Journal.sendPoint_le (j : Journal) (h : j.wf = true) : j.sendPoint ≤ j.entries.length :=
  ((Journal.wf_iff j).mp h).2.1

/-- The send sequence lies the in-flight count past the head sequence (R9). -/
theorem Journal.sendSeq_eq_head (j : Journal) (h : j.wf = true) :
    j.sendSeq = j.headSeq + BitVec.ofNat 32 j.sendPoint := by
  have hlen := j.entries_length_le h
  have hsend := j.sendPoint_le h
  rw [j.sendSeq_eq h, j.headSeq_eq h, Journal.occupancy]
  have hsplit : BitVec.ofNat 32 j.entries.length =
      BitVec.ofNat 32 (j.entries.length - j.sendPoint) + BitVec.ofNat 32 j.sendPoint := by
    rw [← BitVec.ofNat_add, Nat.sub_add_cancel hsend]
  rw [hsplit]
  bv_omega

/-- The in-flight count is the send sequence less the head sequence (R9). -/
theorem Journal.inFlight_eq (j : Journal) (h : j.wf = true) : j.inFlight = (j.sendSeq - j.headSeq).toNat := by
  have hlen := j.entries_length_le h
  have hsend := j.sendPoint_le h
  rw [j.sendSeq_eq_head h, Journal.inFlight]
  have hcancel : j.headSeq + BitVec.ofNat 32 j.sendPoint - j.headSeq = BitVec.ofNat 32 j.sendPoint := by bv_omega
  rw [hcancel, BitVec.toNat_ofNat, Nat.mod_eq_of_lt (by omega)]

/-! ### Rewind -/

theorem precedes_iff (a b : Seq) : precedes a b = true ↔ 1 ≤ (b - a).toNat ∧ (b - a).toNat < 2 ^ 31 := by
  simp only [precedes, Bool.and_eq_true, decide_eq_true_eq]
  omega

theorem atOrBefore_iff (a b : Seq) : atOrBefore a b = true ↔ (b - a).toNat < 2 ^ 31 := by
  rw [atOrBefore, Bool.or_eq_true, precedes_iff, beq_iff_eq]
  constructor
  · rintro (h | rfl)
    · exact h.2
    · simp
  · intro h
    by_cases hab : a = b
    · exact .inr hab
    · exact .inl (by bv_omega)

/-- A number at or before another does not lie past it. -/
theorem precedes_of_atOrBefore {a b : Seq} (h : atOrBefore a b = true) : precedes b a = false := by
  rw [atOrBefore_iff] at h
  rw [← Bool.not_eq_true, precedes_iff]
  bv_omega

theorem rewindPoint_older {j : Journal} {target : Seq} (hne : j.entries ≠ []) (h : precedes target j.headSeq = true) :
    j.rewindPoint target = 0 := by
  simp [Journal.rewindPoint, hne, h]

theorem rewindPoint_within {j : Journal} {target : Seq} (hne : j.entries ≠ [])
    (hhead : atOrBefore j.headSeq target = true) (hsend : atOrBefore target j.sendSeq = true) :
    j.rewindPoint target = (target - j.headSeq).toNat := by
  simp [Journal.rewindPoint, hne, hhead, hsend, precedes_of_atOrBefore hhead]

theorem rewindPoint_past {j : Journal} {target : Seq} (hhead : precedes target j.headSeq = false)
    (hsend : precedes j.sendSeq target = true) : j.rewindPoint target = j.sendPoint := by
  have hnot : atOrBefore target j.sendSeq = false := by
    rw [← Bool.not_eq_true]
    intro hc
    rw [precedes_of_atOrBefore hc] at hsend
    exact absurd hsend (by simp)
  simp [Journal.rewindPoint, hhead, hnot]

/-- A target between head and send sequence lies as far past the head as its entry does (R12, R23). -/
theorem rewind_distance {j : Journal} {target : Seq} (h : j.wf = true) (hhead : atOrBefore j.headSeq target = true)
    (hsend : atOrBefore target j.sendSeq = true) :
    (target - j.headSeq).toNat + (j.sendSeq - target).toNat = j.sendPoint := by
  have hflight := j.inFlight_eq h
  rw [Journal.inFlight] at hflight
  have hlen := j.entries_length_le h
  have hle := j.sendPoint_le h
  rw [atOrBefore_iff] at hhead hsend
  bv_omega

/-- The entry `i` places past the head carries the head's number and `i` (R4, R12). -/
theorem Journal.seq_of_getElem? {j : Journal} (h : j.wf = true) {i : Nat} {e : Entry} (he : j.entries[i]? = some e) :
    e.seq = j.headSeq + BitVec.ofNat 32 i := by
  obtain ⟨-, -, hconsec, -⟩ := (Journal.wf_iff j).mp h
  obtain ⟨hi, rfl⟩ := List.getElem?_eq_some_iff.mp he
  rw [consecutive_getElem _ _ hconsec i hi, j.headSeq_eq h, Journal.occupancy]
  have hsplit : BitVec.ofNat 32 j.entries.length =
      BitVec.ofNat 32 (j.entries.length - i) + BitVec.ofNat 32 i := by
    rw [← BitVec.ofNat_add, Nat.sub_add_cancel (Nat.le_of_lt hi)]
  rw [hsplit]
  bv_omega

/-- Settles O16: the removed run is the `takeWhile` of R21's condition, and a rewind counts from the head. -/
theorem acknowledgeAndRewindMoveTheHeadAndSendPoint : Obligations.AcknowledgeAndRewindMoveTheHeadAndSendPoint := by
  unfold Obligations.AcknowledgeAndRewindMoveTheHeadAndSendPoint
  refine ⟨fun j n hwf => ?_, fun j target hwf => ⟨fun hnil => ?_, rewindPoint_older, fun hne hhead hsend => ?_,
    fun _ => rewindPoint_past⟩⟩
  · have hwf' := Journal.wf_acknowledged n j hwf
    refine ⟨(j.removedBy n).length, j.removedBy_length_le n, fun e he => ?_, fun e he => ?_, rfl, rfl, rfl,
      j.acknowledged_lastAcked_none n, j.acknowledged_lastAcked_some n, Journal.inFlight_eq _ hwf', hwf'⟩
    · rw [← Journal.removedBy_eq_take] at he
      exact (acknowledgedBy_iff n e).mp (List.mem_takeWhile_imp he)
    · rw [← acknowledgedBy_iff, Bool.not_eq_true]
      exact getElem?_length_takeWhile _ _ e he
  · simp [Journal.rewindPoint, hnil]
  · have hdist := rewind_distance hwf hhead hsend
    rw [rewindPoint_within hne hhead hsend]
    refine ⟨by omega, fun ht => ?_, fun e he => ?_⟩
    · rw [ht, ← j.inFlight_eq hwf, Journal.inFlight]
    · rw [Journal.seq_of_getElem? hwf he, BitVec.ofNat_toNat, BitVec.setWidth_eq]
      bv_omega

end Sys2Proof.Machine
end

section
/-! The copy engine: the decision of a start (R82), its taking (R86), and the answers of reads (R88 to R93). -/

namespace Sys2Proof.Machine

/-! ### The decision of a start -/

theorem freeBuffer_isSome_iff (c : CopyEngine) : c.freeBuffer.isSome = true ↔ ∃ i : Fin 4, c.buffers[i].owner = none := by
  simp [CopyEngine.freeBuffer, List.find?_isSome, CopyBuffer.isFree]

/-- The buffer a start takes is the lowest-numbered FREE one (R86). -/
theorem freeBuffer_eq_some {c : CopyEngine} {i : Fin 4} (hi : c.buffers[i].owner = none)
    (hlow : ∀ j : Fin 4, j < i → c.buffers[j].owner ≠ none) : c.freeBuffer = some i := by
  refine List.find?_eq_some_iff_getElem.mpr ⟨by simpa [CopyBuffer.isFree] using hi, i.val, by simp, by simp, fun j hj => ?_⟩
  have hne := hlow ⟨j, by omega⟩ hj
  simpa [CopyBuffer.isFree, Option.isSome_iff_ne_none] using hne

/-- The eight conditions of R82. -/
theorem mayDecideCopy_iff (s : State) : s.mayDecideCopy = true ↔
    s.mirror.state = .resyncing ∧ s.link.state = .up ∧ s.copy.paused = false ∧
      (∃ i : Fin 4, s.copy.buffers[i].owner = none) ∧ s.journal.entries.length < s.cfg.copyCeiling.toNat ∧
      s.copy.pacingTimer = none ∧ 0 < s.dirty.count ∧ s.copy.pendingStart = false := by
  simp only [State.mayDecideCopy, Bool.and_eq_true, beq_iff_eq, Bool.not_eq_true', decide_eq_true_eq,
    Option.isNone_iff_eq_none, freeBuffer_isSome_iff, and_assoc]
  rfl

/-! ### The taking of a pending start -/

theorem requestEngine_eq (s : State) (q : MemTransaction) : s.mem.requestEngine q = s.memAfterEngine q := by
  unfold MemoryPort.requestEngine State.memAfterEngine
  split <;> simp_all [MemoryPort.grant]

theorem pacingStart_eq (c : Settings) :
    pacingStart c = if c.copyPacing = 0 then none else some c.copyPacing.toNat := by
  have hzero : c.copyPacing.toNat = 0 ↔ c.copyPacing = 0 := by rw [← BitVec.toNat_inj]; rfl
  simp [pacingStart, hzero]

theorem presentRead_idle {s : State} (h : s.copy.records = []) : presentRead s = s := by
  simp [presentRead, h]

theorem presentRead_busy {s : State} {r : ReadId} (h : s.copy.outstanding = some r) : presentRead s = s := by
  simp [presentRead, h]

/-- With no read outstanding the earliest copy's read is presented (R88). -/
theorem presentRead_first {s : State} {r : CopyRecord} {rest : List CopyRecord} (ho : s.copy.outstanding = none)
    (hr : s.copy.records = r :: rest) : presentRead s = { s with
      copy.outstanding := some ⟨r.buffer, r.seq, r.nextLine⟩
      mem := s.memAfterEngine (copyRead r) } := by
  simp [presentRead, ho, hr, requestEngine_eq]

/-- The first read of a copy is at the start of its block (R88). -/
theorem copyRead_zero (b : Block) (q : Seq) (i : Fin 4) (p : Bool) :
    copyRead ⟨b, q, i, 0, p⟩ = ⟨.lineRead, BitVec.ofNat 26 (b.toNat * 1024), 0xFFFF, 0, .copy ⟨i, q, 0⟩⟩ := by
  simp [copyRead]

theorem startTaken_reserves {s : State} {i : Fin 4} (b : Block) (hi : s.copy.freeBuffer = some i)
    (hstate : s.mirror.state = .resyncing) (hroom : s.journal.entries.length < 512) :
    startTaken b s = presentRead (reserveCopy b i s) := by
  have hfull : s.journal.full = false := decide_eq_false (Nat.not_le_of_lt hroom)
  simp [startTaken, hi, hstate, hfull]

/-- A start that reserves with no copy under way: entry, buffer, record, timer and first read (R16, R84, R86, R88). -/
theorem startTaken_first {s : State} {i : Fin 4} (b : Block) (hi : s.copy.freeBuffer = some i)
    (hstate : s.mirror.state = .resyncing) (hroom : s.journal.entries.length < 512)
    (ho : s.copy.outstanding = none) (hr : s.copy.records = []) :
    startTaken b s = { s with
      journal := { s.journal with
        entries := s.journal.entries ++ [⟨s.journal.nextSeq, false, .block b i .reading⟩]
        nextSeq := s.journal.nextSeq + 1 }
      copy := { s.copy with
        buffers := s.copy.buffers.set i { s.copy.buffers[i] with owner := some s.journal.nextSeq }
        records := [⟨b, s.journal.nextSeq, i, 0, false⟩]
        outstanding := some ⟨i, s.journal.nextSeq, 0⟩
        pacingTimer := if s.cfg.copyPacing = 0 then none else some s.cfg.copyPacing.toNat }
      mem := s.memAfterEngine ⟨.lineRead, BitVec.ofNat 26 (b.toNat * 1024), 0xFFFF, 0,
        .copy ⟨i, s.journal.nextSeq, 0⟩⟩ } := by
  have hrecords : (reserveCopy b i s).copy.records = [⟨b, s.journal.nextSeq, i, 0, false⟩] :=
    congrArg (· ++ [_]) hr
  rw [startTaken_reserves b hi hstate hroom, presentRead_first (s := reserveCopy b i s) ho hrecords]
  rw [copyRead_zero]
  simp only [reserveCopy, hr, pacingStart_eq]
  rfl

/-- A start that reserves behind a copy under way (R86). -/
theorem startTaken_queued {s : State} {i : Fin 4} {r : ReadId} (b : Block) (hi : s.copy.freeBuffer = some i)
    (hstate : s.mirror.state = .resyncing) (hroom : s.journal.entries.length < 512)
    (ho : s.copy.outstanding = some r) :
    startTaken b s = { s with
      journal := { s.journal with
        entries := s.journal.entries ++ [⟨s.journal.nextSeq, false, .block b i .reading⟩]
        nextSeq := s.journal.nextSeq + 1 }
      copy := { s.copy with
        buffers := s.copy.buffers.set i { s.copy.buffers[i] with owner := some s.journal.nextSeq }
        records := s.copy.records ++ [⟨b, s.journal.nextSeq, i, 0, false⟩]
        pacingTimer := if s.cfg.copyPacing = 0 then none else some s.cfg.copyPacing.toNat } } := by
  rw [startTaken_reserves b hi hstate hroom, presentRead_busy (s := reserveCopy b i s) ho]
  simp only [reserveCopy, pacingStart_eq]
  rfl

/-- A start out of RESYNCING, or with the journal full, marks its block again (R86). -/
theorem startTaken_marks {s : State} (b : Block) (h : s.mirror.state ≠ .resyncing ∨ 512 ≤ s.journal.entries.length) :
    startTaken b s = markDirty b s := by
  have hno : ¬ (s.mirror.state = .resyncing ∧ ¬ s.journal.full = true) := by
    rintro ⟨hs, hf⟩
    exact h.elim (fun hne => hne hs) fun hle => hf (decide_eq_true hle)
  unfold startTaken
  split
  · rw [if_neg hno]
  · rfl

theorem exec_copyStart_none {s : State} (hp : s.porst = false) (hs : s.copy.pendingStart = true)
    (hn : s.dirty.takeNext = none) :
    exec .copyStart s = .next (examineCopy (checkSynced { s with copy.pendingStart := false })) := by
  simp [exec, execCopyStart, unlessPorst, takeCopyStart, hp, hs, hn]

theorem exec_copyStart_some {s : State} {b : Block} {m : DirtyMap} (hp : s.porst = false)
    (hs : s.copy.pendingStart = true) (hn : s.dirty.takeNext = some (b, m)) :
    exec .copyStart s = .next (examineCopy (startTaken b { s with copy.pendingStart := false, dirty := m })) := by
  simp [exec, execCopyStart, unlessPorst, takeCopyStart, hp, hs, hn]

/-- The block that a take-next hands over is clear in the map it leaves (R37). -/
theorem takeNext_not_mem {m n : DirtyMap} {b : Block} (h : m.takeNext = some (b, n)) : b ∉ n.blocks := by
  obtain ⟨-, -, hblocks, -⟩ := DirtyMap.takeNext_some m n b h
  simp [hblocks]

/-- Settles O19: the conditions of R82, and the branches of R86. -/
theorem copyStartIsDecidedAndReserves : Obligations.CopyStartIsDecidedAndReserves := by
  unfold Obligations.CopyStartIsDecidedAndReserves
  refine ⟨⟨fun s => ?_, fun s hp ht => ?_⟩, fun s hp hs => ⟨exec_copyStart_none hp hs, fun b m hn => ?_⟩⟩
  · rw [← mayDecideCopy_iff]
    exact ⟨fun h => if_pos h, fun h => if_neg h⟩
  · simp [exec, execCopyPacingTimerExpiry, unlessPorst, pacingExpiry, hp, ht]
  · rw [exec_copyStart_some hp hs hn]
    refine ⟨fun i hi hlow hstate hroom ho hr => ?_, fun i r hi hlow hstate hroom ho => ?_, fun hmark => ?_⟩
    · have hstart := startTaken_first (s := { s with copy.pendingStart := false, dirty := m }) b
        (freeBuffer_eq_some hi hlow) hstate hroom ho hr
      exact congrArg (fun u => Host.Outcome.next (examineCopy u)) hstart
    · have hstart := startTaken_queued (s := { s with copy.pendingStart := false, dirty := m }) b
        (freeBuffer_eq_some hi hlow) hstate hroom ho
      exact congrArg (fun u => Host.Outcome.next (examineCopy u)) hstart
    · have hstart := startTaken_marks (s := { s with copy.pendingStart := false, dirty := m }) b hmark
      simp [hstart, markDirty, takeNext_not_mem hn]

end Sys2Proof.Machine
end

section
/-! The answers of copy reads (R88 to R93). -/

namespace Sys2Proof.Machine

/-! ### An answer on its way to the copy engine -/

theorem exec_lineReadAnswer_passed {q : MemTransaction} {id : ReadId} {s : State} (beats : List MemAnswer)
    (data : Line) (hbusy : s.mem.phase = .busy q .passed) (howner : q.owner = .copy id) :
    exec (.lineReadAnswer beats data) s =
      .next (copyAnswer id (wholeAnswer beats) data { s with mem.phase := .recovery }) := by
  simp [exec, execLineReadAnswer, lineReadAnswer, hbusy, howner, MemoryPort.answered]

theorem exec_lineReadAnswer_dropped {q : MemTransaction} {id : ReadId} {s : State} (beats : List MemAnswer)
    (data : Line) (hbusy : s.mem.phase = .busy q .dropped) (howner : q.owner = .copy id) :
    exec (.lineReadAnswer beats data) s = .next { s with mem.phase := .recovery } := by
  simp [exec, execLineReadAnswer, lineReadAnswer, hbusy, howner, MemoryPort.answered]

/-- An answer with the earliest copy's identification goes to that copy (R89). -/
theorem copyAnswer_live {s : State} {r : CopyRecord} {rest : List CopyRecord} (answer : MemAnswer) (data : Line)
    (hr : s.copy.records = r :: rest) :
    copyAnswer ⟨r.buffer, r.seq, r.nextLine⟩ answer data s =
      presentRead (takeLine r answer data { s with copy.outstanding := none }) := by
  simp [copyAnswer, hr, CopyRecord.matchesRead]

/-- An answer with no copy's identification changes no copy (R93). -/
theorem copyAnswer_stray {s : State} {id : ReadId} (answer : MemAnswer) (data : Line)
    (h : ∀ r ∈ s.copy.records, ¬ (r.buffer = id.buffer ∧ r.seq = id.seq ∧ r.nextLine = id.line)) :
    copyAnswer id answer data s = presentRead { s with copy.outstanding := none } := by
  have hfind : s.copy.records.find? (fun r => r.matchesRead id) = none := by
    simpa [CopyRecord.matchesRead] using h
  simp [copyAnswer, hfind]

/-! ### The records of the other copies -/

theorem advance_records {r r' : CopyRecord} {rest : List CopyRecord} (h : ∀ p ∈ rest, p.seq ≠ r.seq) :
    ((r :: rest).map fun q => if q.seq = r.seq then r' else q) = r' :: rest := by
  have hrest : (rest.map fun q => if q.seq = r.seq then r' else q) = rest.map id :=
    List.map_congr_left fun p hp => if_neg (h p hp)
  simp [hrest]

theorem remove_record {r : CopyRecord} {rest : List CopyRecord} (h : ∀ p ∈ rest, p.seq ≠ r.seq) :
    (r :: rest).filter (fun q => q.seq != r.seq) = rest := by
  simpa using h

/-! ### An answer before line 63 -/

/-- What an answer stores: the line on an OK, nothing on an ERROR (R89, R90). -/
def storeAnswer (r : CopyRecord) (answer : MemAnswer) (data : Line) (c : CopyEngine) : CopyEngine :=
  match answer with
  | .ok => c.storeLine r.buffer r.nextLine data
  | .error => c

/-- Before line 63 the copy goes on to its next line (R88 to R90). -/
theorem takeLine_advances {s : State} {r : CopyRecord} {rest : List CopyRecord} {n : Fin 64} (answer : MemAnswer)
    (data : Line) (hr : s.copy.records = r :: rest) (hrest : ∀ p ∈ rest, p.seq ≠ r.seq)
    (hn : n.val = r.nextLine.val + 1) :
    takeLine r answer data s = { s with copy := { storeAnswer r answer data s.copy with
      records := { r with nextLine := n, poisoned := r.poisoned || answer == .error } :: rest } } := by
  have hlt : r.nextLine.val ≠ 63 := by omega
  have hnext : r.nextLine + 1 = n := by
    apply Fin.ext
    rw [Fin.val_add_one_of_lt (by simp [Fin.lt_def]; omega), hn]
  cases answer <;>
    simp [takeLine, hlt, hnext, hr, storeAnswer, CopyEngine.storeLine, advance_records hrest]

/-- The request for the next line waits at a port in RECOVERY (R69, R88). -/
theorem presentRead_recovery {s : State} {r : CopyRecord} {rest : List CopyRecord} (hm : s.mem.phase = .recovery)
    (ho : s.copy.outstanding = none) (hr : s.copy.records = r :: rest) : presentRead s = { s with
      copy.outstanding := some ⟨r.buffer, r.seq, r.nextLine⟩
      mem.engineRequest := some (copyRead r) } := by
  rw [presentRead_first ho hr]
  simp [State.memAfterEngine, hm]

/-- A read answered before line 63, whatever the answer (R88 to R90). -/
theorem exec_lineReadAnswer_advances {q : MemTransaction} {s : State} {r : CopyRecord} {rest : List CopyRecord}
    {n : Fin 64} (beats : List MemAnswer) (data : Line) (hbusy : s.mem.phase = .busy q .passed)
    (howner : q.owner = .copy ⟨r.buffer, r.seq, r.nextLine⟩) (hr : s.copy.records = r :: rest)
    (hrest : ∀ p ∈ rest, p.seq ≠ r.seq) (hn : n.val = r.nextLine.val + 1) :
    exec (.lineReadAnswer beats data) s = .next { s with
      mem := { s.mem with
        phase := .recovery
        engineRequest := some ⟨.lineRead, BitVec.ofNat 26 (r.block.toNat * 1024 + n.val * 16), 0xFFFF, 0,
          .copy ⟨r.buffer, r.seq, n⟩⟩ }
      copy := { storeAnswer r (wholeAnswer beats) data s.copy with
        records := { r with nextLine := n, poisoned := r.poisoned || wholeAnswer beats == .error } :: rest
        outstanding := some ⟨r.buffer, r.seq, n⟩ } } := by
  rw [exec_lineReadAnswer_passed beats data hbusy howner,
    copyAnswer_live (s := { s with mem.phase := .recovery }) _ data hr,
    takeLine_advances (s := { s with mem.phase := .recovery, copy.outstanding := none }) _ data hr hrest hn,
    presentRead_recovery rfl (by cases wholeAnswer beats <;> rfl) rfl]
  cases wholeAnswer beats <;> rfl

/-! ### The answer of line 63 -/

/-- At line 63 the copy ends: READY, or POISONED with its reports (R91, R92). -/
theorem takeLine_ends {s : State} {r : CopyRecord} {rest : List CopyRecord} (answer : MemAnswer) (data : Line)
    (hr : s.copy.records = r :: rest) (hrest : ∀ p ∈ rest, p.seq ≠ r.seq) (hlast : r.nextLine = 63) :
    takeLine r answer data s =
      if (r.poisoned || answer == .error) = true then
        reportCopyFault r.block { s with
          journal := s.journal.completeBlock r.seq r.buffer .poisoned
          copy := { storeAnswer r answer data s.copy with records := rest } }
      else { s with
        journal := s.journal.completeBlock r.seq r.buffer .ready
        copy := { storeAnswer r answer data s.copy with records := rest } } := by
  have hval : r.nextLine.val = 63 := by rw [hlast]; rfl
  cases answer <;> cases hp : r.poisoned <;>
    simp [takeLine, endCopy, hval, hr, hp, storeAnswer, CopyEngine.storeLine, remove_record hrest]

/-- Complete block changes the READING entry of its seq and buffer, and no other (R17). -/
theorem completeEntry_other {seq : Seq} {b : Fin 4} {e : Entry} (st : CopyStatus)
    (h : ∀ n, e ≠ ⟨seq, e.sentOnce, .block n b .reading⟩) : completeEntry seq b st e = e := by
  obtain ⟨q, o, body⟩ := e
  unfold completeEntry
  split
  · rename_i n b' hbody
    obtain rfl : body = .block n b' .reading := hbody
    refine if_neg fun hc => h n ?_
    obtain ⟨rfl, rfl⟩ : q = seq ∧ b' = b := hc
    rfl
  · rfl

/-- Settles O20: each answer goes to its copy, which advances or ends. -/
theorem copyReadsStoreLinesAndEndTheCopy : Obligations.CopyReadsStoreLinesAndEndTheCopy := by
  unfold Obligations.CopyReadsStoreLinesAndEndTheCopy
  refine ⟨fun r rest q n oks errs data s hoks herrs hbusy howner hr hrest hn => ⟨_, rfl, ?_, ?_⟩,
    fun r rest q oks errs data s hoks herrs hbusy howner hlast hr hrest => ?_,
    fun j seq b st k e he => ⟨by simp [Journal.completeBlock], fun n hn => ?_, fun hother => ?_⟩,
    fun s ho => ⟨presentRead_idle, fun r rest hr => presentRead_first ho hr⟩,
    fun id q beats data s howner => ⟨fun hbusy hstray => ?_, fun hbusy => exec_lineReadAnswer_dropped beats data hbusy howner⟩⟩
  · rw [exec_lineReadAnswer_advances oks data hbusy howner hr hrest hn, wholeAnswer_ok hoks]
    simp [storeAnswer, CopyEngine.storeLine]
  · rw [exec_lineReadAnswer_advances errs data hbusy howner hr hrest hn, wholeAnswer_error herrs]
    simp [storeAnswer]
  · obtain ⟨b, c, i, line, poisoned⟩ := r
    obtain rfl : line = 63 := hlast
    have hend := fun beats => (exec_lineReadAnswer_passed (s := s) beats data hbusy howner).trans
      (congrArg Host.Outcome.next ((copyAnswer_live (s := { s with mem.phase := .recovery }) (wholeAnswer beats) data hr).trans
        (congrArg presentRead (takeLine_ends (s := { s with mem.phase := .recovery, copy.outstanding := none })
          (wholeAnswer beats) data hr hrest rfl))))
    refine ⟨fun hp => ?_, fun hp => ?_, ?_⟩
    · obtain rfl : poisoned = false := hp
      rw [hend oks, wholeAnswer_ok hoks]
      rfl
    · obtain rfl : poisoned = true := hp
      rw [hend oks, wholeAnswer_ok hoks]
      rfl
    · rw [hend errs, wholeAnswer_error herrs, Bool.or_comm]
      rfl
  · have hentry : completeEntry seq b st e = { e with body := .block n b st } := by
      rw [hn]
      simp [completeEntry]
    simp [Journal.completeBlock, he, hentry]
  · simp [Journal.completeBlock, he, completeEntry_other st hother]
  · rw [exec_lineReadAnswer_passed beats data hbusy howner]
    exact congrArg _ (copyAnswer_stray (s := { s with mem.phase := .recovery }) _ data hstray)

end Sys2Proof.Machine
end

section
/-! What holds right after reset. -/

namespace Sys2Proof.Machine

/-- Settles O3: the reset values are those of `State.reset`, and each invariant is decided of it; the journal's and the
map's forms are their own lemmas. -/
theorem resetValuesAndInvariantsAtReset : Obligations.ResetValuesAndInvariantsAtReset := by
  unfold Obligations.ResetValuesAndInvariantsAtReset
  refine ⟨⟨rfl, rfl, rfl, rfl, rfl, rfl, by decide, by decide, rfl, rfl, rfl, rfl, rfl, rfl, rfl, rfl, rfl, rfl, rfl,
    rfl, rfl, rfl, rfl, rfl, by decide, rfl, rfl⟩, Journal.wf_reset, by decide, DirtyMap.wf_empty, ?_⟩
  decide

end Sys2Proof.Machine
end

section
/-! The bytes of a frame without payload, an ACK or NAK among them, read back as that frame (R122, R123, R131, R132). -/

namespace Sys2Proof.Machine

theorem headerCode_append (code : BitVec 4) (session : SessionNo) : headerCode (code ++ session : Byte) = code :=
  BitVec.extractLsb'_append_eq_left

theorem headerSession_append (code : BitVec 4) (session : SessionNo) :
    headerSession (code ++ session : Byte) = session :=
  BitVec.extractLsb'_append_eq_right

/-- A frame without payload: two bytes of header, seq, length 0, CRC (spec/07, 7.2). -/
theorem bytes_of_empty_payload {f : Frame} (h : f.body.payload = []) :
    f.covered = [(f.body.code ++ f.session : Byte), f.body.flags] ++ (leBytes 4 f.seq.toNat ++ leBytes 2 0) ∧
      f.bytes = f.covered ++ leBytes 4 (crc32 f.covered).toNat := by
  simp [Frame.covered, Frame.bytes, h]

theorem covered_length_of_empty_payload {f : Frame} (h : f.body.payload = []) : f.covered.length = 8 := by
  simp [(bytes_of_empty_payload h).1]

/-- A frame without payload, of a kind the role receives, passes every check of the receiver (R131, R132). -/
theorem judgeBytes_of_empty_payload {f : Frame} {role : Role} (h : f.body.payload = [])
    (hkind : kindAccepted role f.body.code = true)
    (hlength : ∀ flag, requiredLength f.body.code flag = 0)
    (hbody : ∀ bytes, decodeBody bytes f.body.code f.body.flags = some f.body) :
    judgeBytes role f.bytes = .valid f := by
  obtain ⟨hcovered, hbytes⟩ := bytes_of_empty_payload h
  have hlen := covered_length_of_empty_payload h
  have hsize : f.bytes.length = 12 := by rw [hbytes, List.length_append, hlen, leBytes_length]
  have hcrc : fieldAt f.bytes 8 4 = (crc32 (f.bytes.take 8)).toNat := by
    have htake : f.bytes.take 8 = f.covered := by rw [hbytes, ← hlen, List.take_left]
    have hlt : (crc32 f.covered).toNat < 256 ^ 4 := (crc32 f.covered).isLt
    rw [htake, hbytes, ← List.append_nil (leBytes 4 _), fieldAt_append _ (leBytes 4 _) _ 8 4 hlen (by simp),
      ofLeBytes_leBytes_of_lt _ _ hlt]
  generalize leBytes 4 (crc32 f.covered).toNat = tail at hbytes
  rw [hcovered] at hbytes
  have hshape : f.bytes = (f.body.code ++ f.session : Byte) :: f.body.flags ::
      (leBytes 4 f.seq.toNat ++ (leBytes 2 0 ++ tail)) := by
    simp [hbytes]
  have hlenField : fieldAt f.bytes 6 2 = 0 := by
    rw [hbytes, ← List.append_assoc, List.append_assoc,
      fieldAt_append _ (leBytes 2 0) _ 6 2 (by simp) (by simp), ofLeBytes_leBytes, Nat.zero_mod]
  have hseqField : fieldAt f.bytes 2 4 = f.seq.toNat := by
    have hlt : f.seq.toNat < 256 ^ 4 := f.seq.isLt
    rw [hbytes, List.append_assoc, List.append_assoc, fieldAt_append _ (leBytes 4 _) _ 2 4 (by simp) (by simp),
      ofLeBytes_leBytes_of_lt _ _ hlt]
  have hjudge : ∀ bytes byte0 byte1 rest, bytes = byte0 :: byte1 :: rest → headerCode byte0 = f.body.code →
      headerSession byte0 = f.session → byte1 = f.body.flags → fieldAt bytes 6 2 = 0 → fieldAt bytes 2 4 = f.seq.toNat →
      fieldAt bytes 8 4 = (crc32 (bytes.take 8)).toNat → bytes.length = 12 → judgeBytes role bytes = .valid f := by
    rintro _ byte0 byte1 rest rfl hcode hsession rfl hl hs hc hn
    simp [judgeBytes, hcode, hsession, hl, hs, hc, hn, hkind, hlength, hbody]
  exact hjudge _ _ _ _ hshape (headerCode_append _ _) (headerSession_append _ _) rfl hlenField hseqField hcrc hsize

theorem judgeBytes_ack (n : SessionNo) (q : Seq) (fault : Bool) :
    judgeBytes .origin (Frame.mk n q (.ack fault)).bytes = .valid ⟨n, q, .ack fault⟩ := by
  refine judgeBytes_of_empty_payload rfl rfl (fun _ => rfl) fun bytes => ?_
  cases fault <;> simp [decodeBody, FrameBody.code, FrameBody.flags]

theorem judgeBytes_nak (n : SessionNo) (q : Seq) (fault : Bool) :
    judgeBytes .origin (Frame.mk n q (.nak fault)).bytes = .valid ⟨n, q, .nak fault⟩ := by
  refine judgeBytes_of_empty_payload rfl rfl (fun _ => rfl) fun bytes => ?_
  cases fault <;> simp [decodeBody, FrameBody.code, FrameBody.flags]

end Sys2Proof.Machine
end

section
/-! The copy buffers that a run of entries frees as it leaves the journal (R22, R25, R27, R78). -/

namespace Sys2Proof.Machine

/-- Freeing buffers changes the buffers alone. -/
theorem freeBuffersOf_eq (es : List Entry) (c : CopyEngine) :
    c.freeBuffersOf es = { c with buffers := (c.freeBuffersOf es).buffers } := by
  unfold CopyEngine.freeBuffersOf
  induction es generalizing c with
  | nil => rfl
  | cons e es ih =>
    have hone : c.freeBufferOf e = { c with buffers := (c.freeBufferOf e).buffers } := by
      unfold CopyEngine.freeBufferOf
      split <;> rfl
    rw [List.foldl_cons, hone]
    exact ih _

@[simp] theorem freeBuffersOf_keeps (es : List Entry) (c : CopyEngine) :
    (c.freeBuffersOf es).records = c.records ∧ (c.freeBuffersOf es).outstanding = c.outstanding ∧
      (c.freeBuffersOf es).paused = c.paused ∧ (c.freeBuffersOf es).pacingTimer = c.pacingTimer ∧
      (c.freeBuffersOf es).pendingStart = c.pendingStart ∧ (c.freeBuffersOf es).faultBlock = c.faultBlock := by
  rw [freeBuffersOf_eq]
  exact ⟨rfl, rfl, rfl, rfl, rfl, rfl⟩

theorem freeBufferOf_owner (e : Entry) (c : CopyEngine) (i : Fin 4) :
    (c.freeBufferOf e).buffers[i].owner = if e.bufferIndex = some i then none else c.buffers[i].owner := by
  obtain ⟨q, o, body⟩ := e
  cases body with
  | block n b st =>
    by_cases h : b = i
    · simp [CopyEngine.freeBufferOf, Entry.bufferIndex, h]
    · have hval : b.val ≠ i.val := fun hc => h (Fin.ext hc)
      simp [CopyEngine.freeBufferOf, Entry.bufferIndex, h, hval]
  | write line m d => simp [CopyEngine.freeBufferOf, Entry.bufferIndex]
  | mark n c d => simp [CopyEngine.freeBufferOf, Entry.bufferIndex]

theorem mem_blockBuffers_cons (i : Fin 4) (e : Entry) (es : List Entry) :
    i ∈ blockBuffers (e :: es) ↔ e.bufferIndex = some i ∨ i ∈ blockBuffers es := by
  simp [blockBuffers]

/-- The buffers that the entries name become FREE, and the others keep their owners (R78). -/
theorem freeBuffersOf_owner (es : List Entry) (c : CopyEngine) (i : Fin 4) :
    (c.freeBuffersOf es).buffers[i].owner = if i ∈ blockBuffers es then none else c.buffers[i].owner := by
  unfold CopyEngine.freeBuffersOf
  induction es generalizing c with
  | nil => simp [blockBuffers]
  | cons e es ih =>
    rw [List.foldl_cons, ih, freeBufferOf_owner]
    simp only [mem_blockBuffers_cons]
    by_cases hes : i ∈ blockBuffers es <;> simp [hes]

/-- With buffers in agreement, emptying the journal frees them all (R78). -/
theorem freeBuffersOf_all {s : State} (h : s.buffersOk = true) (i : Fin 4) :
    (s.copy.freeBuffersOf s.journal.entries).buffers[i].owner = none := by
  rw [freeBuffersOf_owner]
  split
  · rfl
  · rename_i hi
    simp only [State.buffersOk, Bool.and_eq_true, List.all_eq_true] at h
    have hfree := h.2 i (List.mem_finRange i)
    simpa [hi, CopyBuffer.isFree] using hfree

end Sys2Proof.Machine
end

section
/-! ACK and NAK (R152, R153). -/

namespace Sys2Proof.Machine

/-! ### A frame on its way to the session controller -/

theorem receiving_of_aligned {s : State} (h : s.aligned) : s.receiving = true := by
  obtain ⟨hoff, hhunting⟩ := h
  simp [State.receiving, hoff, hhunting]

theorem exec_ackReceived {s : State} (n : SessionNo) (q : Seq) (fault : Bool) (hp : s.porst = false)
    (ha : s.aligned) (hrole : s.role = .origin) :
    exec (.ackReceived (Frame.mk n q (.ack fault)).bytes) s =
      .next (takeAck ⟨n, q, .ack fault⟩ fault { s with rx.phase := .between }) := by
  simp [exec, execAckReceived, unlessPorst, hp, receiveBytes, receiving_of_aligned ha, hrole, judgeBytes_ack,
    disposeAck]

theorem exec_nakReceived {s : State} (n : SessionNo) (q : Seq) (fault : Bool) (hp : s.porst = false)
    (ha : s.aligned) (hrole : s.role = .origin) :
    exec (.nakReceived (Frame.mk n q (.nak fault)).bytes) s =
      .next (takeNak ⟨n, q, .nak fault⟩ fault { s with rx.phase := .between }) := by
  simp [exec, execNakReceived, unlessPorst, hp, receiveBytes, receiving_of_aligned ha, hrole, judgeBytes_nak,
    disposeNak]

theorem ownsFrame_iff (s : State) (f : Frame) :
    s.ownsFrame f = true ↔ s.link.state = .up ∧ f.session = s.link.session := by
  simp [State.ownsFrame]

/-- Fault flag and silence timer as an ACK or NAK of the session in UP leaves them (R109, R149). -/
theorem reportReplicaFault_noteValidFrame {s : State} {n : SessionNo} (fault : Bool) (hup : s.link.state = .up)
    (hn : n = s.link.session) : reportReplicaFault fault (noteValidFrame n s) = { s with
      link.silenceTimer := some s.cfg.silence.toNat
      mirror.incomplete := s.mirror.incomplete || fault
      causes := if fault then s.raised .replicaFault else s.causes } := by
  cases fault <;>
    simp [reportReplicaFault, noteValidFrame, hup, hn, raise, State.raised, State.silence]

/-! ### Acknowledge-through and rewind -/

theorem acknowledgeThrough_none {n : Seq} {s : State} (h : s.journal.removedBy n = []) : acknowledgeThrough n s = s := by
  simp [acknowledgeThrough, h]

theorem acknowledgeThrough_some {n : Seq} {s : State} (h : s.journal.removedBy n ≠ []) :
    acknowledgeThrough n s =
      examineCopy (reportAcknowledged (s.journal.removedBy n) { s with journal := s.journal.acknowledged n }) := by
  obtain ⟨e, es, he⟩ := List.exists_cons_of_ne_nil h
  simp [acknowledgeThrough, he]

theorem acknowledged_of_none {n : Seq} {j : Journal} (h : j.removedBy n = []) : j.acknowledged n = j := by
  simp [Journal.acknowledged, h]

theorem acknowledgeThrough_journal (n : Seq) (s : State) :
    (acknowledgeThrough n s).journal = s.journal.acknowledged n := by
  by_cases h : s.journal.removedBy n = []
  · rw [acknowledgeThrough_none h, acknowledged_of_none h]
  · simp [acknowledgeThrough_some h]

theorem acknowledgeThrough_buffers (n : Seq) (s : State) :
    (acknowledgeThrough n s).copy.buffers = (s.copy.freeBuffersOf (s.journal.removedBy n)).buffers := by
  by_cases h : s.journal.removedBy n = []
  · rw [acknowledgeThrough_none h, h]
    rfl
  · rw [acknowledgeThrough_some h]
    simp [reportAcknowledged]

/-- A rewind in one expression (R23, R151). -/
theorem rewindTo_eq (target : Seq) (s : State) : rewindTo target s = { s with
    journal.sendPoint := min (s.journal.rewindPoint target) s.journal.sendPoint
    tx.buffer := if s.journal.rewindPoint target < s.journal.sendPoint then none else s.tx.buffer
    link.ackTimer := if min (s.journal.rewindPoint target) s.journal.sendPoint = 0 then none else s.link.ackTimer } := by
  unfold rewindTo emptyBuffer Journal.inFlight
  dsimp only
  by_cases hlt : s.journal.rewindPoint target < s.journal.sendPoint
  · simp only [if_pos hlt, Nat.min_eq_left (Nat.le_of_lt hlt)]
    split <;> rfl
  · simp only [if_neg hlt, Nat.min_eq_right (Nat.le_of_not_lt hlt)]
    split <;> rfl

/-- The ack timer behind a removal and a rewind: restarted while an entry is in flight (R151, R154). -/
theorem rewound_ackTimer (p sp interval : Nat) :
    (if min p sp = 0 then (none : Timer) else if 0 < sp then some interval else none) =
      if min p sp = 0 then none else some interval := by
  split
  · rfl
  · exact if_pos (by omega)

/-- The examination in one expression (R82). -/
theorem examineCopy_eq (s : State) :
    examineCopy s = { s with copy.pendingStart := s.copy.pendingStart || s.mayDecideCopy } := by
  unfold examineCopy
  cases h : s.mayDecideCopy <;> simp

/-! ### The outcomes of R152 and R153 -/

theorem takeAck_stale {f : Frame} {s : State} (fault : Bool) (h : s.ownsFrame f = false) :
    takeAck f fault s = bump .rxStale s := by
  simp [takeAck, h]

theorem takeNak_stale {f : Frame} {s : State} (fault : Bool) (h : s.ownsFrame f = false) :
    takeNak f fault s = bump .rxStale s := by
  simp [takeNak, h]

theorem takeAck_protocol {f : Frame} {s : State} (fault : Bool) (hup : s.link.state = .up)
    (hn : f.session = s.link.session)
    (hr : ¬ (atOrBefore (s.journal.headSeq - 1) f.seq = true ∧ atOrBefore f.seq s.journal.sentLimit = true)) :
    takeAck f fault s = bump .protocol (reportReplicaFault fault (noteValidFrame f.session s)) := by
  unfold takeAck
  rw [if_pos ((ownsFrame_iff s f).mpr ⟨hup, hn⟩)]
  refine if_neg ?_
  simpa using hr

theorem takeAck_inRange {f : Frame} {s : State} (fault : Bool) (hup : s.link.state = .up)
    (hn : f.session = s.link.session) (hhead : atOrBefore (s.journal.headSeq - 1) f.seq = true)
    (hlimit : atOrBefore f.seq s.journal.sentLimit = true) :
    takeAck f fault s = acknowledgeThrough f.seq (reportReplicaFault fault (noteValidFrame f.session s)) := by
  unfold takeAck
  rw [if_pos ((ownsFrame_iff s f).mpr ⟨hup, hn⟩)]
  refine if_pos ?_
  simpa using And.intro hhead hlimit

theorem takeNak_protocol {f : Frame} {s : State} (fault : Bool) (hup : s.link.state = .up)
    (hn : f.session = s.link.session)
    (hr : ¬ (atOrBefore s.journal.headSeq f.seq = true ∧ atOrBefore f.seq (s.journal.sentLimit + 1) = true)) :
    takeNak f fault s = bump .protocol (reportReplicaFault fault (noteValidFrame f.session s)) := by
  unfold takeNak
  rw [if_pos ((ownsFrame_iff s f).mpr ⟨hup, hn⟩)]
  refine if_neg ?_
  simpa using hr

theorem takeNak_inRange {f : Frame} {s : State} (fault : Bool) (hup : s.link.state = .up)
    (hn : f.session = s.link.session) (hhead : atOrBefore s.journal.headSeq f.seq = true)
    (hlimit : atOrBefore f.seq (s.journal.sentLimit + 1) = true) :
    takeNak f fault s =
      rewindTo f.seq (acknowledgeThrough (f.seq - 1) (reportReplicaFault fault (noteValidFrame f.session s))) := by
  unfold takeNak
  rw [if_pos ((ownsFrame_iff s f).mpr ⟨hup, hn⟩)]
  refine if_pos ?_
  simpa using And.intro hhead hlimit

/-- The state after fault flag and silence timer of an ACK or NAK in UP, with the receiver aligned (R109, R149). -/
def heardFrame (fault : Bool) (s : State) : State := { s with
  rx.phase := .between
  link.silenceTimer := some s.cfg.silence.toNat
  mirror.incomplete := s.mirror.incomplete || fault
  causes := if fault then s.raised .replicaFault else s.causes }

theorem reportReplicaFault_heard {s : State} (fault : Bool) (hup : s.link.state = .up) :
    reportReplicaFault fault (noteValidFrame s.link.session { s with rx.phase := .between }) = heardFrame fault s :=
  reportReplicaFault_noteValidFrame (s := { s with rx.phase := .between }) fault hup rfl

/-- An ACK in range is an acknowledge-through (R152). -/
theorem exec_ack_inRange {q : Seq} {s : State} (fault : Bool) (hp : s.porst = false) (ha : s.aligned)
    (hrole : s.role = .origin) (hup : s.link.state = .up) (hhead : atOrBefore (s.journal.headSeq - 1) q = true)
    (hlimit : atOrBefore q s.journal.sentLimit = true) :
    exec (.ackReceived (Frame.mk s.link.session q (.ack fault)).bytes) s =
      .next (acknowledgeThrough q (heardFrame fault s)) := by
  rw [exec_ackReceived _ _ _ hp ha hrole, ← reportReplicaFault_heard fault hup]
  exact congrArg _ (takeAck_inRange (s := { s with rx.phase := .between }) fault hup rfl hhead hlimit)

/-- A NAK in range is an acknowledge-through to its predecessor and a rewind (R153). -/
theorem exec_nak_inRange {q : Seq} {s : State} (fault : Bool) (hp : s.porst = false) (ha : s.aligned)
    (hrole : s.role = .origin) (hup : s.link.state = .up) (hhead : atOrBefore s.journal.headSeq q = true)
    (hlimit : atOrBefore q (s.journal.sentLimit + 1) = true) :
    exec (.nakReceived (Frame.mk s.link.session q (.nak fault)).bytes) s =
      .next (rewindTo q (acknowledgeThrough (q - 1) (heardFrame fault s))) := by
  rw [exec_nakReceived _ _ _ hp ha hrole, ← reportReplicaFault_heard fault hup]
  exact congrArg _ (takeNak_inRange (s := { s with rx.phase := .between }) fault hup rfl hhead hlimit)

/-- A frame out of range is PROTOCOL, with its fault flag and the silence timer taken (R109, R149, R152, R153). -/
theorem exec_outOfRange {q : Seq} {s : State} {c : Instr} (fault : Bool) (hp : s.porst = false) (ha : s.aligned)
    (hrole : s.role = .origin) (hup : s.link.state = .up)
    (hc : (c = .ackReceived (Frame.mk s.link.session q (.ack fault)).bytes ∧
        ¬ (atOrBefore (s.journal.headSeq - 1) q = true ∧ atOrBefore q s.journal.sentLimit = true)) ∨
      (c = .nakReceived (Frame.mk s.link.session q (.nak fault)).bytes ∧
        ¬ (atOrBefore s.journal.headSeq q = true ∧ atOrBefore q (s.journal.sentLimit + 1) = true))) :
    exec c s = .next (bump .protocol (heardFrame fault s)) := by
  rcases hc with ⟨rfl, hr⟩ | ⟨rfl, hr⟩
  · rw [exec_ackReceived _ _ _ hp ha hrole, ← reportReplicaFault_heard fault hup]
    exact congrArg _ (takeAck_protocol (s := { s with rx.phase := .between }) fault hup rfl hr)
  · rw [exec_nakReceived _ _ _ hp ha hrole, ← reportReplicaFault_heard fault hup]
    exact congrArg _ (takeNak_protocol (s := { s with rx.phase := .between }) fault hup rfl hr)

/-- A frame outside UP, or of another session, is RX_STALE (R152, R153). -/
theorem exec_stale {n : SessionNo} {q : Seq} {s : State} {c : Instr} (fault : Bool) (hp : s.porst = false)
    (ha : s.aligned) (hrole : s.role = .origin) (hs : s.link.state ≠ .up ∨ n ≠ s.link.session)
    (hc : c = .ackReceived (Frame.mk n q (.ack fault)).bytes ∨ c = .nakReceived (Frame.mk n q (.nak fault)).bytes) :
    exec c s = .next (bump .rxStale { s with rx.phase := .between }) := by
  have hstale : ∀ body, State.ownsFrame { s with rx.phase := .between } ⟨n, q, body⟩ = false := by
    intro body
    rw [← Bool.not_eq_true, ownsFrame_iff]
    exact fun h => hs.elim (fun hu => hu h.1) fun hn => hn h.2
  rcases hc with rfl | rfl
  · rw [exec_ackReceived _ _ _ hp ha hrole, takeAck_stale fault (hstale _)]
  · rw [exec_nakReceived _ _ _ hp ha hrole, takeNak_stale fault (hstale _)]

/-- Settles O27: the frame is read back, and each range gives its outcome. -/
theorem ackAndNakActWithinRange : Obligations.AckAndNakActWithinRange := by
  unfold Obligations.AckAndNakActWithinRange
  refine ⟨fun n q fault s hp ha hrole => ⟨fun hs c hc => exec_stale fault hp ha hrole hs hc, fun hup hn c hc => ?_⟩,
    fun q fault s hp ha hrole hup hhead hlimit => ⟨heardFrame fault s, rfl, fun hnone => ?_, fun hsome => ?_⟩,
    fun q fault s hp ha hrole hup hhead hlimit => ?_⟩
  · subst hn
    exact exec_outOfRange fault hp ha hrole hup hc
  · rw [exec_ack_inRange fault hp ha hrole hup hhead hlimit, acknowledgeThrough_none (s := heardFrame fault s) hnone]
  · rw [exec_ack_inRange fault hp ha hrole hup hhead hlimit, acknowledgeThrough_some (s := heardFrame fault s) hsome]
    rfl
  · rw [exec_nak_inRange fault hp ha hrole hup hhead hlimit]
    refine ⟨fun hnone => ?_, ⟨_, rfl, ?_, ?_, ?_, ?_, ?_⟩, fun hsome => ⟨_, _, rfl, rfl, _, rfl, ?_, fun hpending => ?_⟩⟩
    · rw [acknowledgeThrough_none (s := heardFrame fault s) hnone, rewindTo_eq]
      rfl
    · rw [rewindTo_journal, acknowledgeThrough_journal]
      rfl
    · rw [rewindTo_eq]
      exact acknowledgeThrough_buffers (q - 1) (heardFrame fault s)
    · simp [heardFrame]
    · simp [heardFrame]
    · simp [heardFrame]
    · rw [← rewound_ackTimer, acknowledgeThrough_some (s := heardFrame fault s) hsome, examineCopy_eq, rewindTo_eq]
      rfl
    · rw [rewindTo_eq, acknowledgeThrough_some (s := heardFrame fault s) hsome]
      simp [reportAcknowledged, heardFrame, hpending]

end Sys2Proof.Machine
end

section
/-! The hello/keepalive timer (R142) and the ack timer below the retry limit (R154). -/

namespace Sys2Proof.Machine

/-! ### The hello/keepalive timer -/

/-- A HELLO or PROBE takes the control slot whatever stands there (R124). -/
theorem offeredSlot_takes {f : Frame} (slot : Option Frame) (h : f.body = .hello ∨ f.body = .probe) :
    offeredSlot slot f = some f := by
  rcases h with h | h <;> unfold offeredSlot <;> split <;> simp_all

theorem offerControl_takes {s : State} {body : FrameBody} (q : Seq) (hlink : s.link.state ≠ .off)
    (h : body = .hello ∨ body = .probe) :
    offerControl q body s = { s with tx.slot := some ⟨s.link.session, q, body⟩ } := by
  rw [offerControl, if_neg hlink, offeredSlot_takes _ h]

theorem exec_helloKeepaliveTimerExpiry {s : State} (hp : s.porst = false) :
    exec .helloKeepaliveTimerExpiry s = .next (helloKeepaliveExpiry s) := by
  simp [exec, execHelloKeepaliveTimerExpiry, unlessPorst, hp]

/-- The end of the holdoff opens CONNECTING (R142, R143). -/
theorem helloKeepaliveExpiry_down {s : State} (ht : s.link.helloTimer.isSome = true) (hs : s.link.state = .down) :
    helloKeepaliveExpiry s = { s with
      link := { s.link with
        state := .connecting, session := nextSession s.link.session, helloTimer := some s.cfg.keepalive.toNat }
      tx.slot := some ⟨nextSession s.link.session, s.journal.nextSeq, .hello⟩ } := by
  simp [helloKeepaliveExpiry, ht, hs, enterConnecting, offerHello, offerControl_takes, State.keepalive]

theorem helloKeepaliveExpiry_connecting {s : State} (ht : s.link.helloTimer.isSome = true)
    (hs : s.link.state = .connecting) : helloKeepaliveExpiry s = { s with
      link.helloTimer := some s.cfg.keepalive.toNat
      tx.slot := some ⟨s.link.session, s.journal.nextSeq, .hello⟩ } := by
  simp [helloKeepaliveExpiry, ht, hs, offerHello, offerControl_takes, State.keepalive]

theorem helloKeepaliveExpiry_up {s : State} (ht : s.link.helloTimer.isSome = true) (hs : s.link.state = .up) :
    helloKeepaliveExpiry s = { s with link.helloTimer := none, tx.slot := some ⟨s.link.session, 0, .probe⟩ } := by
  simp [helloKeepaliveExpiry, ht, hs, offerControl_takes]

theorem nextSession_toNat (n : SessionNo) : (nextSession n).toNat = if n.toNat = 15 then 1 else n.toNat + 1 := by
  have hlast : n = 15 ↔ n.toNat = 15 := by rw [← BitVec.toNat_inj]; rfl
  have hlt := n.isLt
  unfold nextSession
  simp only [hlast]
  split
  · rfl
  · rw [BitVec.toNat_add]
    exact Nat.mod_eq_of_lt (by simp; omega)

/-! ### The ack timer -/

theorem atOrBefore_self (a : Seq) : atOrBefore a a = true := by simp [atOrBefore]

/-- The head lies at or before the send sequence (R9). -/
theorem head_atOrBefore_sendSeq {j : Journal} (h : j.wf = true) : atOrBefore j.headSeq j.sendSeq = true := by
  have hflight := j.inFlight_eq h
  have hlen := j.entries_length_le h
  have hle := j.sendPoint_le h
  rw [atOrBefore_iff, ← hflight, Journal.inFlight]
  omega

/-- A rewind to the head puts the send point at the head (R23). -/
theorem rewindPoint_head {j : Journal} (h : j.wf = true) : j.rewindPoint j.headSeq = 0 := by
  by_cases hnil : j.entries = []
  · have hle := j.sendPoint_le h
    rw [hnil] at hle
    simpa [Journal.rewindPoint, hnil] using hle
  · rw [rewindPoint_within hnil (atOrBefore_self _) (head_atOrBefore_sendSeq h)]
    simp

/-- An expiry of the ack timer in one expression (R154). -/
theorem ackTimeoutStep_eq {s : State} (h : s.journal.wf = true) : ackTimeoutStep s = { s with
    journal.sendPoint := 0
    tx.buffer := if 0 < s.journal.sendPoint then none else s.tx.buffer
    link := { s.link with ackTimer := none, timeouts := s.link.timeouts + 1 }
    counters := s.counted .ackTimeouts } := by
  have hpoint := rewindPoint_head h
  simp only [ackTimeoutStep, rewindTo_eq, hpoint, Nat.zero_min, if_true]
  rfl

/-- Settles O28: the cases of R142, and R154 below the limit. -/
theorem keepaliveAndAckTimersExpire : Obligations.KeepaliveAndAckTimersExpire := by
  unfold Obligations.KeepaliveAndAckTimersExpire
  refine ⟨⟨fun s hp ht => ?_, nextSession_toNat⟩, fun s hp ht hup hwf hlimit => ?_⟩
  · rw [exec_helloKeepaliveTimerExpiry hp]
    exact ⟨fun hs => congrArg _ (helloKeepaliveExpiry_down ht hs),
      fun hs => congrArg _ (helloKeepaliveExpiry_connecting ht hs),
      fun hs => congrArg _ (helloKeepaliveExpiry_up ht hs)⟩
  · have hbelow : ¬ s.cfg.retryLimit.toNat ≤ s.link.timeouts + 1 := by omega
    simp [exec, execAckTimerExpiry, unlessPorst, hp, ackExpiry, ht, hup, ackTimeoutStep_eq hwf, hbelow]

end Sys2Proof.Machine
end

section
/-! The origin's link loss (R25, R56, R94, R103, R116, R156, R158). -/

namespace Sys2Proof.Machine

/-! ### Causes through raises -/

theorem raise_hasCause_self (c : Cause) (s : State) : (raise c s).hasCause c = true := by
  cases c <;> simp [State.hasCause, Cause.bit]

/-- A cause that is set stays set when another is raised (R191). -/
theorem raise_hasCause {c : Cause} (d : Cause) {s : State} (h : s.hasCause c = true) : (raise d s).hasCause c = true := by
  rw [State.hasCause] at h ⊢
  simp [BitVec.getLsbD_or, h]

theorem failDrain_hasCause {c : Cause} {s : State} (h : s.hasCause c = true) : (failDrain s).hasCause c = true := by
  unfold failDrain
  split
  · exact h
  · exact raise_hasCause _ h

/-- A drain that fails raises DRAIN_FAILED (R116). -/
theorem failDrain_drainFailed {s : State} (h : s.mirror.drain ≠ .clear) : (failDrain s).hasCause .drainFailed = true := by
  unfold failDrain
  split
  · contradiction
  · exact raise_hasCause_self _ _

/-! ### The link-loss transition -/

/-- What the link-loss transition has done when the drain is judged (R103). -/
def beforeDrainFails (s : State) : State := cancelMarkRequest (abandonCopies (releaseIntoMap (spillJournal s)))

theorem beforeDrainFails_causes (s : State) : (beforeDrainFails s).causes = (spillJournal s).causes := by
  simp [beforeDrainFails]

theorem spillJournal_hasCause {c : Cause} {s : State} (h : s.hasCause c = true) : (spillJournal s).hasCause c = true := by
  have hkeep : (spillJournal s).causes = s.causes ∨ (spillJournal s).causes = (raise .drainFailed s).causes := by
    unfold spillJournal reportSpilledDrains
    dsimp only
    split
    · exact .inr rfl
    · exact .inl rfl
  have hraised := raise_hasCause .drainFailed h
  unfold State.hasCause at h hraised ⊢
  rcases hkeep with hk | hk <;> rw [hk] <;> assumption

/-- A drain mark in the journal is reported by the spill (R25). -/
theorem spillJournal_drainFailed {s : State} (h : s.journal.entries.any (fun e => e.isDrainMark) = true) :
    (spillJournal s).hasCause .drainFailed = true := by
  have hraised : (spillJournal s).causes = (raise .drainFailed s).causes := by
    unfold spillJournal reportSpilledDrains
    dsimp only
    rw [if_pos h]
    rfl
  rw [State.hasCause, hraised]
  exact raise_hasCause_self .drainFailed s

theorem linkLossTransition_causes (s : State) :
    (linkLossTransition s).causes = (failDrain (beforeDrainFails s)).causes := rfl

/-- A cause that is set stays set through the link-loss transition (R191). -/
theorem linkLossTransition_hasCause {c : Cause} {s : State} (h : s.hasCause c = true) :
    (linkLossTransition s).hasCause c = true := by
  rw [State.hasCause, linkLossTransition_causes]
  refine failDrain_hasCause ?_
  rw [State.hasCause, beforeDrainFails_causes]
  exact spillJournal_hasCause h

/-- A pending drain fails in the link-loss transition, by its spilled MARK or by itself (R25, R103, R116). -/
theorem linkLossTransition_drainFailed {s : State} (h : s.mirror.drain ≠ .clear) :
    (linkLossTransition s).hasCause .drainFailed = true := by
  rw [State.hasCause, linkLossTransition_causes]
  by_cases hspilled : s.journal.entries.any (fun e => e.isDrainMark) = true
  · refine failDrain_hasCause ?_
    rw [State.hasCause, beforeDrainFails_causes]
    exact spillJournal_drainFailed hspilled
  · refine failDrain_drainFailed ?_
    simpa [beforeDrainFails, cancelMarkRequest, spillJournal_mirror, hspilled] using h

theorem spillBlock_eq_some (e : Entry) (b : Block) : e.spillBlock = some b ↔
    (∃ l m d, e.body = .write l m d ∧ blockOf l = b) ∨ ∃ i st, e.body = .block b i st := by
  obtain ⟨q, o, body⟩ := e
  cases body <;> simp [Entry.spillBlock, eq_comm]

/-- The dirty blocks after the link-loss transition (R25, R56, R103). -/
theorem linkLossTransition_mem_dirty (s : State) (b : Block) : b ∈ (linkLossTransition s).dirty.blocks ↔
    b ∈ s.dirty.blocks ∨
      (∃ e ∈ s.journal.entries, (∃ l m d, e.body = .write l m d ∧ blockOf l = b) ∨ ∃ i st, e.body = .block b i st) ∨
      ∃ w, s.sys.phase = .held w ∧ blockOf w.address = b := by
  rw [linkLossTransition_dirty]
  simp only [← spillBlock_eq_some]
  cases hphase : s.sys.phase with
  | held w =>
    simp only [DirtyMap.mem_mark, mem_spillMarks, SystemPhase.held.injEq, exists_eq_left']
    rw [or_comm, or_assoc, eq_comm (a := b)]
  | idle => simp [mem_spillMarks]
  | atMemory w => simp [mem_spillMarks]
  | complete w code data => simp [mem_spillMarks]

/-! ### What the origin loses -/

/-- The origin after it left UP while it streamed, whichever the cause: what stands in `t` of what stood in `s`. -/
structure OriginLost (s t : State) : Prop where
  state : t.mirror.state = .tracking
  journal : t.journal = ⟨[], 0, s.journal.nextSeq, s.journal.lastAcked⟩
  dirty : ∀ b, b ∈ t.dirty.blocks ↔ b ∈ s.dirty.blocks ∨
    (∃ e ∈ s.journal.entries, (∃ l m d, e.body = .write l m d ∧ blockOf l = b) ∨ ∃ i st, e.body = .block b i st) ∨
    ∃ w, s.sys.phase = .held w ∧ blockOf w.address = b
  records : t.copy.records = []
  pacing : t.copy.pacingTimer = none
  request : t.mem.engineRequest = none
  pendingMark : t.mirror.pendingMark = none
  drain : t.mirror.drain = .clear
  drainFailed : s.mirror.drain ≠ .clear → t.hasCause .drainFailed = true
  linkDown : t.hasCause .linkDown = true
  linkDowns : t.counter .linkDowns = saturate (s.counter .linkDowns)
  held : ∀ w, s.sys.phase = .held w → t.sys = ⟨.complete w .ok 0, none⟩
  unheld : (∀ w, s.sys.phase ≠ .held w) → t.sys = s.sys
  slot : t.tx.slot = none
  buffer : t.tx.buffer = none
  silence : t.link.silenceTimer = none
  ack : t.link.ackTimer = none
  timeouts : t.link.timeouts = 0
  session : t.link.session = s.link.session
  reports : t.reports = s.reports
  incomplete : t.mirror.incomplete = s.mirror.incomplete
  lastIssued : t.mirror.lastIssued = s.mirror.lastIssued
  lastAckedMark : t.mirror.lastAckedMark = s.mirror.lastAckedMark
  paused : t.copy.paused = s.copy.paused
  freed : s.buffersOk = true → ∀ i : Fin 4, t.copy.buffers[i].owner = none

/-- What a link loss reads of the state: two states that agree on it lose the same. -/
structure LossAgrees (s u : State) : Prop where
  role : u.role = s.role
  mirror : u.mirror = s.mirror
  entries : u.journal.entries = s.journal.entries
  nextSeq : u.journal.nextSeq = s.journal.nextSeq
  lastAcked : u.journal.lastAcked = s.journal.lastAcked
  dirty : u.dirty = s.dirty
  copy : u.copy = s.copy
  sys : u.sys = s.sys
  reports : u.reports = s.reports
  session : u.link.session = s.link.session
  linkDowns : u.counter .linkDowns = s.counter .linkDowns
  line : u.tx.line = s.tx.line
  breakPending : u.tx.breakPending = s.tx.breakPending

/-- The link's part of the loss in an origin: counted, timers stopped, transmitter emptied, next state entered. -/
def linkLeavesUp (dest : LeaveTo) (withBreak : Bool) (s : State) : State :=
  enterAfterUp dest (transmitterLeavesUp withBreak (stopSession (countLinkDown s)))

theorem leaveUp_origin {s : State} (dest : LeaveTo) (withBreak : Bool) (hrole : s.role = .origin)
    (hstream : s.streaming = true) :
    leaveUp dest withBreak true s = linkLossTransition (linkLeavesUp dest withBreak s) := by
  have hclear : clearReplicaSession (stopSession (countLinkDown s)) = stopSession (countLinkDown s) := by
    simp [clearReplicaSession, hrole]
  have hstream' : (linkLeavesUp dest withBreak s).streaming = true := by
    simpa [State.streaming, linkLeavesUp] using hstream
  have hrole' : (linkLeavesUp dest withBreak s).role = .origin := by simpa [linkLeavesUp] using hrole
  have hleft : reportLeftUp (linkLeavesUp dest withBreak s) = linkLossTransition (linkLeavesUp dest withBreak s) := by
    rw [reportLeftUp, hrole']
    exact (originLeftUp_eq _).trans (if_pos hstream')
  unfold leaveUp
  simp only [if_true, hclear]
  exact hleft

@[simp] theorem linkLeavesUp_keeps (dest : LeaveTo) (withBreak : Bool) (s : State) :
    (linkLeavesUp dest withBreak s).sys = s.sys ∧ (linkLeavesUp dest withBreak s).mem = s.mem ∧
      (linkLeavesUp dest withBreak s).journal = s.journal ∧ (linkLeavesUp dest withBreak s).dirty = s.dirty ∧
      (linkLeavesUp dest withBreak s).copy = s.copy ∧ (linkLeavesUp dest withBreak s).mirror = s.mirror ∧
      (linkLeavesUp dest withBreak s).reports = s.reports ∧
      (linkLeavesUp dest withBreak s).counters = (countLinkDown s).counters ∧
      (linkLeavesUp dest withBreak s).causes = (countLinkDown s).causes := by
  simp [linkLeavesUp]

/-- The session controller of an origin that left UP for DOWN or OFF (R158). -/
theorem linkLeavesUp_link {s : State} {dest : LeaveTo} (withBreak : Bool) (hrole : s.role = .origin)
    (hdest : dest ≠ .connecting) :
    (linkLeavesUp dest withBreak s).link.state = (if dest = .off then .off else .down) ∧
      (linkLeavesUp dest withBreak s).link.silenceTimer = none ∧
      (linkLeavesUp dest withBreak s).link.ackTimer = none ∧ (linkLeavesUp dest withBreak s).link.timeouts = 0 ∧
      (linkLeavesUp dest withBreak s).link.session = s.link.session := by
  cases dest with
  | down => simp [linkLeavesUp, enterAfterUp, enterDown, hrole, stopSession]
  | off => simp [linkLeavesUp, enterAfterUp, enterOff, clearReplicaSession, hrole, stopSession]
  | connecting => exact absurd rfl hdest

/-- The transmitter's slot and holding buffer are empty outside UP (R127, R128). -/
theorem linkLeavesUp_emptied (s : State) {dest : LeaveTo} (withBreak : Bool)
    (hdest : dest ≠ .connecting) :
    (linkLeavesUp dest withBreak s).tx.slot = none ∧ (linkLeavesUp dest withBreak s).tx.buffer = none := by
  have hempty : (transmitterLeavesUp withBreak (stopSession (countLinkDown s))).tx.slot = none ∧
      (transmitterLeavesUp withBreak (stopSession (countLinkDown s))).tx.buffer = none := by
    unfold transmitterLeavesUp requestBreak emptyTransmitter
    dsimp only
    (repeat' split) <;> exact ⟨rfl, rfl⟩
  cases dest with
  | down => simpa [linkLeavesUp, enterAfterUp] using hempty
  | off => simp [linkLeavesUp, enterAfterUp, enterOff, transmitterIntoOff]
  | connecting => exact absurd rfl hdest

/-- Without a break the line goes on as it stands (R156). -/
theorem linkLeavesUp_line_plain (s : State) :
    (linkLeavesUp .down false s).tx.line = s.tx.line ∧
      (linkLeavesUp .down false s).tx.breakPending = s.tx.breakPending := by
  simp [linkLeavesUp, enterAfterUp, transmitterLeavesUp, emptyTransmitter]

/-- A requested break cuts a frame on the line; one being sent is the one that is sent (R127). -/
theorem linkLeavesUp_line_break (s : State) :
    (linkLeavesUp .down true s).tx.line = (match s.tx.line with
      | .sending _ => .finishing
      | other => other) ∧
    (s.tx.line ≠ .space → (linkLeavesUp .down true s).tx.breakPending = true) ∧
    (s.tx.line = .space → (linkLeavesUp .down true s).tx.breakPending = s.tx.breakPending) := by
  cases hline : s.tx.line <;>
    simp [linkLeavesUp, enterAfterUp, transmitterLeavesUp, requestBreak, emptyTransmitter, hline]

/-- The link into OFF puts the line at rest (R128). -/
theorem linkLeavesUp_line_off (s : State) :
    (linkLeavesUp .off false s).tx.line = lineIntoOff s.tx.line ∧
      (linkLeavesUp .off false s).tx.breakPending = false := by
  simp [linkLeavesUp, enterAfterUp, enterOff, transmitterIntoOff, transmitterLeavesUp, emptyTransmitter]

theorem countLinkDown_linkDown (s : State) : (countLinkDown s).hasCause .linkDown = true :=
  raise_hasCause_self _ _

theorem countLinkDown_linkDowns (s : State) : (countLinkDown s).counter .linkDowns = saturate (s.counter .linkDowns) := by
  simp [countLinkDown, State.counter, Counter.index]

/-- The loss of UP in one place: what the origin's link-loss transition makes of a state that agrees with `s`. -/
theorem originLost_leaveUp {s u : State} {dest : LeaveTo} (withBreak : Bool) (h : LossAgrees s u)
    (hrole : s.role = .origin) (hstate : s.mirror.state = .resyncing ∨ s.mirror.state = .synced)
    (hdest : dest ≠ .connecting) : OriginLost s (leaveUp dest withBreak true u) := by
  have hrole' : u.role = .origin := h.role.trans hrole
  have hstream : u.streaming = true := by rcases hstate with hs | hs <;> simp [State.streaming, h.mirror, hs]
  rw [leaveUp_origin dest withBreak hrole' hstream]
  obtain ⟨hlink, hsilence, hack, htimeouts, hsession⟩ := linkLeavesUp_link (dest := dest) withBreak hrole' hdest
  obtain ⟨hslot, hbuffer⟩ := linkLeavesUp_emptied u (dest := dest) withBreak hdest
  obtain ⟨hsys, hmem, hjournal, hdirty, hcopy, hmirror, hreports, hcounters, hcauses⟩ := linkLeavesUp_keeps dest withBreak u
  have hdown : (linkLeavesUp dest withBreak u).hasCause .linkDown = true := by
    rw [State.hasCause, hcauses]
    exact countLinkDown_linkDown u
  constructor
  case state => simp
  case journal => simp [Journal.emptied, h.nextSeq, h.lastAcked]
  case dirty =>
    intro b
    rw [linkLossTransition_mem_dirty, hdirty, hjournal, hsys, h.dirty, h.entries, h.sys]
  case records => simp [linkLossTransition_copy]
  case pacing => simp [linkLossTransition_copy]
  case request => simp [MemoryPort.withdrawEngine]
  case pendingMark => simp
  case drain => simp
  case drainFailed =>
    intro hd
    exact linkLossTransition_drainFailed (by rwa [hmirror, h.mirror])
  case linkDown => exact linkLossTransition_hasCause hdown
  case linkDowns =>
    rw [← h.linkDowns, ← countLinkDown_linkDowns]
    simp [State.counter]
  case held =>
    intro w hw
    rw [linkLossTransition_sys, hsys, h.sys, hw]
  case unheld =>
    intro hw
    rw [linkLossTransition_sys, hsys, h.sys]
    split
    · rename_i w hheld
      exact absurd hheld (hw w)
    · rfl
  case slot => simpa using hslot
  case buffer => simp
  case silence => simpa using hsilence
  case ack => simpa using hack
  case timeouts => simpa using htimeouts
  case session => simpa [h.session] using hsession
  case reports => simp [h.reports]
  case incomplete => simp [h.mirror]
  case lastIssued => simp [h.mirror]
  case lastAckedMark => simp [h.mirror]
  case paused => simp [linkLossTransition_copy, h.copy]
  case freed =>
    intro hok i
    simpa [linkLossTransition_copy, h.copy, h.entries] using freeBuffersOf_all hok i

/-! ### The five causes -/

theorem lossAgrees_refl (s : State) : LossAgrees s s :=
  ⟨rfl, rfl, rfl, rfl, rfl, rfl, rfl, rfl, rfl, rfl, rfl, rfl, rfl⟩

/-- The counter of another event is left alone (R190). -/
theorem counter_bump_of_ne {c d : Counter} (s : State) (h : c.index ≠ d.index) : (bump c s).counter d = s.counter d := by
  have hval : c.index.val ≠ d.index.val := fun hc => h (Fin.ext hc)
  simp [State.counter, hval]

theorem ackTimeoutStep_link (s : State) :
    (ackTimeoutStep s).link.state = s.link.state ∧ (ackTimeoutStep s).link.session = s.link.session ∧
      (ackTimeoutStep s).link.timeouts = s.link.timeouts + 1 := by
  simp [ackTimeoutStep, rewindTo_eq]

theorem lossAgrees_ackTimeoutStep (s : State) : LossAgrees s (ackTimeoutStep s) where
  role := by simp
  mirror := by simp
  entries := by simp [ackTimeoutStep]
  nextSeq := by simp [ackTimeoutStep]
  lastAcked := by simp [ackTimeoutStep]
  dirty := by simp
  copy := by simp
  sys := by simp
  reports := by simp
  session := (ackTimeoutStep_link s).2.1
  linkDowns := by
    rw [ackTimeoutStep]
    refine (counter_bump_of_ne _ (by decide)).trans ?_
    simp [State.counter]
  line := by simp
  breakPending := by simp

theorem lossAgrees_breakStopBit (s : State) : LossAgrees s { breakStopBit s with rx.runReported := true } where
  role := by simp
  mirror := by simp
  entries := by simp
  nextSeq := by simp
  lastAcked := by simp
  dirty := by simp
  copy := by simp
  sys := by simp
  reports := by simp
  session := by simp
  linkDowns := by
    unfold breakStopBit framingToHunting rxDiscard
    split
    · exact counter_bump_of_ne _ (by decide)
    · rfl
  line := by simp
  breakPending := by simp

theorem exec_silenceTimerExpiry_up {s : State} (hp : s.porst = false) (hup : s.link.state = .up)
    (ht : s.link.silenceTimer.isSome = true) :
    exec .silenceTimerExpiry s = .next (leaveUp .down false true s) := by
  simp [exec, execSilenceTimerExpiry, unlessPorst, hp, silenceExpiry, ht, hup]

/-- At the retry limit the expiry of the ack timer leaves UP with a break (R154). -/
theorem exec_ackTimerExpiry_limit {s : State} (hp : s.porst = false) (hup : s.link.state = .up)
    (ht : s.link.ackTimer.isSome = true) (hlimit : s.cfg.retryLimit.toNat ≤ s.link.timeouts + 1) :
    exec .ackTimerExpiry s = .next (leaveUp .down true true (ackTimeoutStep s)) := by
  simp [exec, execAckTimerExpiry, unlessPorst, hp, ackExpiry, ht, hup, (ackTimeoutStep_link s).2.2, hlimit]

theorem exec_breakDetected_up {s : State} (hp : s.porst = false) (hup : s.link.state = .up)
    (hr : s.rx.runReported = false) :
    exec .breakDetected s = .next (leaveUp .down false true { breakStopBit s with rx.runReported := true }) := by
  simp [exec, execBreakDetected, unlessPorst, hp, breakDetected, hup, hr, takeBreakReport]

theorem exec_linkReset_up {s : State} (hp : s.porst = false) (hready : s.portReady) (hup : s.link.state = .up) :
    exec .linkReset s = .next (respond .accepted (leaveUp .down true true (selectPort (deselectPort s)))) := by
  simp [exec, execLinkReset, whenServed_eq _ s hp hready.1 hready.2, commandLinkReset, acceptIf, hup, resetLink]

theorem exec_linkEnable_clear_up {s : State} (hp : s.porst = false) (hready : s.portReady) (hup : s.link.state = .up) :
    exec (.controlLinkEnable false) s = .next (respond .accepted
      (leaveUp .off false true { selectPort (deselectPort s) with control.linkEnable := false })) := by
  simp [exec, execControlLinkEnable, whenServed_eq _ s hp hready.1 hready.2, setEnable, clearLinkEnable, hup]

/-- A loss answered to the service port is the same loss. -/
theorem originLost_respond {s t : State} (r : Response) (h : OriginLost s t) : OriginLost s (respond r t) := { h with }

/-- The line, the pending break and the link state behind a loss are those the link's own part left. -/
theorem leaveUp_origin_line {s u : State} {dest : LeaveTo} (withBreak : Bool) (h : LossAgrees s u)
    (hrole : s.role = .origin) (hstate : s.mirror.state = .resyncing ∨ s.mirror.state = .synced)
    (hdest : dest ≠ .connecting) :
    (leaveUp dest withBreak true u).tx.line = (linkLeavesUp dest withBreak u).tx.line ∧
      (leaveUp dest withBreak true u).tx.breakPending = (linkLeavesUp dest withBreak u).tx.breakPending ∧
      (leaveUp dest withBreak true u).link.state = (if dest = .off then .off else .down) := by
  have hrole' : u.role = .origin := h.role.trans hrole
  have hstream : u.streaming = true := by rcases hstate with hs | hs <;> simp [State.streaming, h.mirror, hs]
  rw [leaveUp_origin dest withBreak hrole' hstream]
  simpa using (linkLeavesUp_link (dest := dest) withBreak hrole' hdest).1

/-- Each cause of R156 and R158 is a loss, with its own effect on line, break and link state. -/
theorem exec_originLost {c : Instr} {s : State} (hp : s.porst = false) (hrole : s.role = .origin)
    (hup : s.link.state = .up) (hstate : s.mirror.state = .resyncing ∨ s.mirror.state = .synced)
    (hc : (c = .silenceTimerExpiry ∧ s.link.silenceTimer.isSome = true) ∨
      (c = .ackTimerExpiry ∧ s.link.ackTimer.isSome = true ∧ s.cfg.retryLimit.toNat ≤ s.link.timeouts + 1) ∨
      (c = .breakDetected ∧ s.rx.runReported = false) ∨
      (s.portReady ∧ (c = .linkReset ∨ c = .controlLinkEnable false))) :
    ∃ t, exec c s = .next t ∧ OriginLost s t ∧
      (c = .ackTimerExpiry ∨ c = .linkReset →
        t.tx.line = (match s.tx.line with
          | .sending _ => .finishing
          | other => other) ∧
        (s.tx.line ≠ .space → t.tx.breakPending = true) ∧
        (s.tx.line = .space → t.tx.breakPending = s.tx.breakPending)) ∧
      (c = .silenceTimerExpiry ∨ c = .breakDetected →
        t.tx.line = s.tx.line ∧ t.tx.breakPending = s.tx.breakPending) ∧
      (c = .controlLinkEnable false → t.tx.breakPending = false ∧ t.tx.line = lineIntoOff s.tx.line) ∧
      t.link.state = (if c = .controlLinkEnable false then .off else .down) := by
  have hplain : ∀ u, LossAgrees s u → OriginLost s (leaveUp .down false true u) ∧
      (leaveUp .down false true u).tx.line = s.tx.line ∧
      (leaveUp .down false true u).tx.breakPending = s.tx.breakPending ∧
      (leaveUp .down false true u).link.state = .down := by
    intro u hu
    obtain ⟨hline, hbreak, hlink⟩ := leaveUp_origin_line (dest := .down) false hu hrole hstate (by simp)
    obtain ⟨hline', hbreak'⟩ := linkLeavesUp_line_plain u
    exact ⟨originLost_leaveUp false hu hrole hstate (by simp), by rw [hline, hline', hu.line],
      by rw [hbreak, hbreak', hu.breakPending], by simpa using hlink⟩
  have hcut : ∀ u, LossAgrees s u → OriginLost s (leaveUp .down true true u) ∧
      ((leaveUp .down true true u).tx.line = (match s.tx.line with
          | .sending _ => .finishing
          | other => other) ∧
        (s.tx.line ≠ .space → (leaveUp .down true true u).tx.breakPending = true) ∧
        (s.tx.line = .space → (leaveUp .down true true u).tx.breakPending = s.tx.breakPending)) ∧
      (leaveUp .down true true u).link.state = .down := by
    intro u hu
    obtain ⟨hline, hbreak, hlink⟩ := leaveUp_origin_line (dest := .down) true hu hrole hstate (by simp)
    have hcut := linkLeavesUp_line_break u
    rw [← hline, ← hbreak, hu.line, hu.breakPending] at hcut
    exact ⟨originLost_leaveUp true hu hrole hstate (by simp), hcut, by simpa using hlink⟩
  rcases hc with ⟨rfl, ht⟩ | ⟨rfl, ht, hlimit⟩ | ⟨rfl, hr⟩ | ⟨hready, rfl | rfl⟩
  · obtain ⟨hlost, hline, hbreak, hlink⟩ := hplain s (lossAgrees_refl s)
    exact ⟨_, exec_silenceTimerExpiry_up hp hup ht, hlost, by simp, fun _ => ⟨hline, hbreak⟩, by simp, by simpa using hlink⟩
  · obtain ⟨hlost, hline, hlink⟩ := hcut _ (lossAgrees_ackTimeoutStep s)
    exact ⟨_, exec_ackTimerExpiry_limit hp hup ht hlimit, hlost, fun _ => hline, by simp, by simp, by simpa using hlink⟩
  · obtain ⟨hlost, hline, hbreak, hlink⟩ := hplain _ (lossAgrees_breakStopBit s)
    exact ⟨_, exec_breakDetected_up hp hup hr, hlost, by simp, fun _ => ⟨hline, hbreak⟩, by simp, by simpa using hlink⟩
  · have hagrees : LossAgrees s (selectPort (deselectPort s)) := { lossAgrees_refl s with }
    obtain ⟨hlost, hline, hlink⟩ := hcut _ hagrees
    exact ⟨_, exec_linkReset_up hp hready hup, originLost_respond _ hlost, fun _ => hline, by simp, by simp,
      by simpa using hlink⟩
  · have hagrees : LossAgrees s { selectPort (deselectPort s) with control.linkEnable := false } :=
      { lossAgrees_refl s with }
    obtain ⟨hline, hbreak, hlink⟩ := leaveUp_origin_line (dest := .off) false hagrees hrole hstate (by simp)
    obtain ⟨hline', hbreak'⟩ := linkLeavesUp_line_off { selectPort (deselectPort s) with control.linkEnable := false }
    exact ⟨_, exec_linkEnable_clear_up hp hready hup,
      originLost_respond _ (originLost_leaveUp false hagrees hrole hstate (by simp)), by simp, by simp,
      fun _ => ⟨hbreak.trans hbreak', hline.trans hline'⟩, by simpa using hlink⟩

/-- Settles O29: every cause is a loss as `OriginLost` lists it. -/
theorem originLinkLossSpillsEverything : Obligations.OriginLinkLossSpillsEverything := by
  unfold Obligations.OriginLinkLossSpillsEverything
  intro c s hp hrole hup hstate hc
  obtain ⟨t, hexec, h, hcut, hplain, hoff, hlink⟩ := exec_originLost hp hrole hup hstate hc
  exact ⟨t, hexec, h.state, hcut, hplain, hoff, hlink, h.journal, h.dirty, h.records, h.pacing, h.request,
    h.pendingMark, h.drain, h.drainFailed, h.linkDown, h.linkDowns, h.held, h.unheld, h.slot, h.buffer, h.silence, h.ack,
    h.timeouts, h.session, h.reports, h.incomplete, h.lastIssued, h.lastAckedMark, h.paused, h.freed⟩

end Sys2Proof.Machine
end

section
/-! STOP of either role (R27, R57, R95, R104, R159, R164, R178). -/

namespace Sys2Proof.Machine

/-! ### STOP of the origin -/

/-- What STOP of the origin has done when the drain is judged (R104). -/
def beforeStopFailsDrain (s : State) : State :=
  cancelMarkRequest (releaseUncaptured { abandonCopies { discardJournal s with dirty := DirtyMap.empty } with
    copy.paused := false })

theorem stopMirroring_eq (s : State) : stopMirroring s = { failDrain (beforeStopFailsDrain s) with
    mirror.drained := false, mirror.state := .disabled } := rfl

theorem failDrain_causes (s : State) :
    (failDrain s).causes = if s.mirror.drain = .clear then s.causes else s.raised .drainFailed := by
  unfold failDrain
  cases s.mirror.drain <;> rfl

theorem releaseUncaptured_sys (s : State) : (releaseUncaptured s).sys = match s.sys.phase with
    | .held t => ⟨.complete t .ok 0, none⟩
    | _ => s.sys := by
  unfold releaseUncaptured
  split <;> simp_all

theorem stopMirroring_journal (s : State) :
    (stopMirroring s).journal = ⟨[], 0, s.journal.nextSeq, s.journal.lastAcked⟩ := by
  simp [stopMirroring_eq, beforeStopFailsDrain, discardJournal, Journal.emptied]

theorem stopMirroring_dirty (s : State) : (stopMirroring s).dirty = ⟨[], 0, 0⟩ := by
  simp [stopMirroring_eq, beforeStopFailsDrain, DirtyMap.empty]

/-- STOP frees the buffers of the journal, abandons the copies and the pause (R27, R95). -/
theorem stopMirroring_copy (s : State) : (stopMirroring s).copy = { s.copy.freeBuffersOf s.journal.entries with
    records := []
    pacingTimer := none
    paused := false
    outstanding := if s.mem.engineRequest.isSome then none else s.copy.outstanding } := by
  simp [stopMirroring_eq, beforeStopFailsDrain, discardJournal]

theorem stopMirroring_mirror (s : State) : (stopMirroring s).mirror =
    { s.mirror with state := .disabled, pendingMark := none, drain := .clear, drained := false } := by
  simp [stopMirroring_eq, beforeStopFailsDrain, failDrain_mirror, cancelMarkRequest]

theorem stopMirroring_causes (s : State) :
    (stopMirroring s).causes = if s.mirror.drain = .clear then s.causes else s.raised .drainFailed := by
  simp [stopMirroring_eq, failDrain_causes, beforeStopFailsDrain, cancelMarkRequest, State.raised]

theorem stopMirroring_sys (s : State) : (stopMirroring s).sys = match s.sys.phase with
    | .held t => ⟨.complete t .ok 0, none⟩
    | _ => s.sys := by
  simp [stopMirroring_eq, beforeStopFailsDrain, releaseUncaptured_sys]

theorem stopMirroring_mem (s : State) : (stopMirroring s).mem = s.mem.withdrawEngine := by
  simp [stopMirroring_eq, beforeStopFailsDrain]

theorem stopMirroring_tx (s : State) : (stopMirroring s).tx = { s.tx with buffer := none } := by
  simp [stopMirroring_eq, beforeStopFailsDrain, discardJournal]

/-- With mirroring stopped the new session is the link's alone (R159). -/
theorem renewSession_disabled {s : State} (hrole : s.role = .origin) (hstate : s.mirror.state = .disabled) :
    renewSession s = if s.link.state = .up then enterConnecting (emptyTransmitter (stopSession s)) else s := by
  have hclear : clearReplicaSession (stopSession s) = stopSession s := by simp [clearReplicaSession, hrole]
  simp [renewSession, leaveUp, hclear, transmitterLeavesUp, enterAfterUp, hrole, reportLeftUp, originLeftUp, hstate]

theorem enterConnecting_eq (s : State) : enterConnecting s = { s with
    link := { s.link with
      state := .connecting, session := nextSession s.link.session, helloTimer := some s.cfg.keepalive.toNat }
    tx.slot := some ⟨nextSession s.link.session, s.journal.nextSeq, .hello⟩ } := by
  simp [enterConnecting, offerHello, offerControl_takes, State.keepalive]

theorem exec_stop_origin {s : State} (hp : s.porst = false) (hready : s.portReady) (hrole : s.role = .origin)
    (hstate : s.mirror.state ≠ .disabled) :
    exec .stop s = .next (respond .accepted (stopOrigin (selectPort (deselectPort s)))) := by
  simp [exec, execStop, whenServed_eq _ s hp hready.1 hready.2, commandStop, acceptIf, State.roleDisabled, hrole, hstate]

/-! ### STOP of the replica -/

theorem exec_stop_replica {s : State} (hp : s.porst = false) (hready : s.portReady) (hrole : s.role = .replica)
    (hstate : s.mirror.replica = .listening ∨ s.mirror.replica = .applying) :
    exec .stop s = .next (respond .accepted (stopReplica (selectPort (deselectPort s)))) := by
  have hdisabled : s.mirror.replica ≠ .disabled := by rcases hstate with h | h <;> simp [h]
  simp [exec, execStop, whenServed_eq _ s hp hready.1 hready.2, commandStop, acceptIf, State.roleDisabled, hrole,
    hdisabled]

/-- The part of STOP that ends the replica: fencing, the frame in hand, the slots (R164, R178). -/
def endReplica (s : State) : State :=
  flushSlots (abandonFrame { s with mirror.replica := .disabled, apply.fault := false })

/-- A DISABLED replica that leaves UP goes to CONNECTING with session 0 (R147). -/
theorem leaveUp_disabled_replica {s : State} (hrole : s.role = .replica) (hstate : s.mirror.replica = .disabled) :
    leaveUp .connecting false false s = { emptyTransmitter s with
      link := { s.link with
        state := .connecting, session := 0, helloTimer := none, silenceTimer := none, ackTimer := none
        timeouts := 0 } } := by
  simp [leaveUp, transmitterLeavesUp, enterAfterUp, reportLeftUp, replicaLeftUp, clearReplicaSession, stopSession,
    emptyTransmitter, hrole, hstate]

theorem stopReplica_eq {s : State} (hrole : s.role = .replica) : stopReplica s =
    if s.link.state = .up then { emptyTransmitter (endReplica s) with
      link := { s.link with
        state := .connecting, session := 0, helloTimer := none, silenceTimer := none, ackTimer := none
        timeouts := 0 } }
    else endReplica s := by
  have hlink : (endReplica s).link = s.link := by simp [endReplica]
  have hrole' : (endReplica s).role = .replica := by simp [endReplica, hrole]
  have hstate : (endReplica s).mirror.replica = .disabled := by simp [endReplica]
  have hstop : stopReplica s =
      if (endReplica s).link.state = .up then leaveUp .connecting false false (endReplica s) else endReplica s := rfl
  rw [hstop, leaveUp_disabled_replica hrole' hstate, hlink]

/-- The frame in hand by the apply engine's phase, and the slots flushed (R134, R164, R178). -/
theorem endReplica_frame (s : State) :
    (s.apply.phase = .idle → (endReplica s).rx.slots = [] ∧ (endReplica s).mem = s.mem ∧
      (endReplica s).apply.phase = .idle) ∧
    (s.apply.phase = .writing → s.mem.engineRequest.isSome = true → (endReplica s).rx.slots = [] ∧
      (endReplica s).apply.phase = .idle ∧ (endReplica s).mem = { s.mem with engineRequest := none }) ∧
    (s.apply.phase = .writing → s.mem.engineRequest = none → (endReplica s).rx.slots = s.rx.slots.take 1 ∧
      (endReplica s).apply.phase = .abandoning ∧ (endReplica s).mem = s.mem) := by
  refine ⟨fun h => ?_, fun h hr => ?_, fun h hr => ?_⟩
  · simp [endReplica, abandonFrame, flushSlots, h]
  · simp [endReplica, abandonFrame, flushSlots, releaseSlot, h, hr, MemoryPort.withdrawEngine]
  · simp [endReplica, abandonFrame, flushSlots, h, hr]

/-- The apply-fault flag is cleared, the other flags and marks are kept (R164). -/
theorem endReplica_flags (s : State) :
    (endReplica s).apply.fault = false ∧ (endReplica s).apply.coherent = s.apply.coherent ∧
      (endReplica s).apply.fresh = s.apply.fresh ∧ (endReplica s).apply.expected = s.apply.expected ∧
      (endReplica s).apply.lastMark = s.apply.lastMark ∧
      (endReplica s).apply.lastConsistent = s.apply.lastConsistent := by
  unfold endReplica
  simp

theorem endReplica_mirror (s : State) : (endReplica s).mirror = { s.mirror with replica := .disabled } := by
  simp [endReplica]

/-- What the link's part of a replica STOP keeps of the part (R147, R164). -/
theorem stopReplica_keeps_endReplica {s : State} (hrole : s.role = .replica) :
    (stopReplica s).mirror = (endReplica s).mirror ∧ (stopReplica s).apply = (endReplica s).apply ∧
      (stopReplica s).rx = (endReplica s).rx ∧ (stopReplica s).mem = (endReplica s).mem ∧
      (stopReplica s).causes = s.causes ∧ (stopReplica s).counters = s.counters ∧ (stopReplica s).sys = s.sys := by
  rw [stopReplica_eq hrole]
  split <;> simp [endReplica]

/-- An origin's STOP inside the part, through the new session that it opens (R104, R159). -/
theorem stopOrigin_part {s : State} (hrole : s.role = .origin) :
    (stopOrigin s).journal = ⟨[], 0, s.journal.nextSeq, s.journal.lastAcked⟩ ∧ (stopOrigin s).dirty = ⟨[], 0, 0⟩ ∧
      (stopOrigin s).copy = { s.copy.freeBuffersOf s.journal.entries with
        records := []
        pacingTimer := none
        paused := false
        outstanding := if s.mem.engineRequest.isSome then none else s.copy.outstanding } ∧
      (stopOrigin s).mem = s.mem.withdrawEngine ∧
      (stopOrigin s).mirror =
        { s.mirror with state := .disabled, pendingMark := none, drain := .clear, drained := false } ∧
      (stopOrigin s).causes = (if s.mirror.drain = .clear then s.causes else s.raised .drainFailed) ∧
      (stopOrigin s).sys = (match s.sys.phase with
        | .held t => ⟨.complete t .ok 0, none⟩
        | _ => s.sys) ∧
      (stopOrigin s).counters = s.counters ∧ (stopOrigin s).tx.buffer = none := by
  have hrole' : (stopMirroring s).role = .origin := by simp [hrole]
  have hstate : (stopMirroring s).mirror.state = .disabled := by simp [stopMirroring_mirror]
  rw [← stopMirroring_journal, ← stopMirroring_dirty s, ← stopMirroring_copy, ← stopMirroring_mem,
    ← stopMirroring_mirror, ← stopMirroring_causes, ← stopMirroring_sys, stopOrigin,
    renewSession_disabled hrole' hstate]
  split
  · simp [enterConnecting_eq, emptyTransmitter, stopSession]
  · simp [stopMirroring_tx]

/-- The link after an origin's STOP: a new session from UP, else as it stood (R159). -/
theorem stopOrigin_link {s : State} (hrole : s.role = .origin) :
    (s.link.state = .up → (stopOrigin s).link.state = .connecting ∧
      (stopOrigin s).link.session = nextSession s.link.session ∧
      (stopOrigin s).tx.slot = some ⟨nextSession s.link.session, s.journal.nextSeq, .hello⟩) ∧
    (s.link.state ≠ .up → (stopOrigin s).link = s.link ∧ (stopOrigin s).tx.slot = s.tx.slot) := by
  have hrole' : (stopMirroring s).role = .origin := by simp [hrole]
  have hstate : (stopMirroring s).mirror.state = .disabled := by simp [stopMirroring_mirror]
  have hlink : (stopMirroring s).link = s.link := by simp
  rw [stopOrigin, renewSession_disabled hrole' hstate, hlink]
  refine ⟨fun hup => ?_, fun hup => ?_⟩
  · rw [if_pos hup]
    simp [enterConnecting_eq, emptyTransmitter, stopSession, stopMirroring_journal]
  · rw [if_neg hup]
    simp [stopMirroring_tx]

/-- The link after a replica's STOP (R147). -/
theorem stopReplica_link {s : State} (hrole : s.role = .replica) :
    (s.link.state = .up → (stopReplica s).link.state = .connecting ∧ (stopReplica s).link.session = 0 ∧
      (stopReplica s).link.silenceTimer = none) ∧
    (s.link.state ≠ .up → (stopReplica s).link = s.link) := by
  rw [stopReplica_eq hrole]
  refine ⟨fun hup => ?_, fun hup => ?_⟩
  · simp [hup]
  · simp [hup, endReplica]

/-- Settles O37: STOP's part inside the part, then the link's. -/
theorem stopDiscardsOriginOrEndsReplica : Obligations.StopDiscardsOriginOrEndsReplica := by
  unfold Obligations.StopDiscardsOriginOrEndsReplica
  refine ⟨fun s hp hready hrole hstate => ?_, fun s hp hready hrole hstate => ?_⟩
  · have hrole' : (selectPort (deselectPort s)).role = .origin := hrole
    obtain ⟨hjournal, hdirty, hcopy, hmem, hmirror, hcauses, hsys, hcounters, hbuffer⟩ := stopOrigin_part hrole'
    obtain ⟨hup, hnotUp⟩ := stopOrigin_link hrole'
    refine ⟨_, exec_stop_origin hp hready hrole hstate, by simp [State.answered], hjournal, hdirty,
      congrArg CopyEngine.records hcopy, congrArg CopyEngine.pacingTimer hcopy, congrArg CopyEngine.paused hcopy,
      congrArg MemoryPort.engineRequest hmem, hmirror, hcauses, fun w hw => hsys.trans ?_, fun hw => hsys.trans ?_,
      hbuffer, hcounters, by simp, hup, hnotUp, fun hok i => ?_⟩
    · simp [hw]
    · cases hphase : s.sys.phase with
      | held w => exact absurd hphase (hw w)
      | idle => simp [hphase]
      | atMemory w => simp [hphase]
      | complete w code data => simp [hphase]
    · exact (congrArg (fun c : CopyEngine => c.buffers[i].owner) hcopy).trans (freeBuffersOf_all hok i)
  · have hrole' : (selectPort (deselectPort s)).role = .replica := hrole
    obtain ⟨hmirror, happly, hrx, hmem, hcauses, hcounters, hsys⟩ := stopReplica_keeps_endReplica hrole'
    obtain ⟨hup, hnotUp⟩ := stopReplica_link hrole'
    have hflags := endReplica_flags (selectPort (deselectPort s))
    have hframe := endReplica_frame (selectPort (deselectPort s))
    rw [← happly] at hflags
    rw [← hrx, ← hmem, ← happly] at hframe
    obtain ⟨hfault, hcoherent, hfresh, hexpected, hlastMark, hlastConsistent⟩ := hflags
    obtain ⟨hidle, hwaiting, hatMemory⟩ := hframe
    exact ⟨_, exec_stop_replica hp hready hrole hstate, by simp [State.answered], hmirror.trans (endReplica_mirror _),
      hfault, hcoherent, hfresh, hexpected, hlastMark, hlastConsistent, hcauses, hcounters, hsys, hidle, hwaiting, hatMemory, hup, hnotUp⟩

end Sys2Proof.Machine
end

section
/-! Register writes: which indices have rows of their own, and what a WRITE of any index answers (R181 to R185). -/

namespace Sys2Proof.Machine

/-! ### Indices -/

theorem extractLsb'_high_toNat (index : Byte) : (index.extractLsb' 4 4).toNat = index.toNat / 16 := by
  have hlt := index.isLt
  rw [BitVec.extractLsb'_toNat, Nat.shiftRight_eq_div_pow]
  omega

/-- The REGION registers are the indices 0x20 to 0x2F (spec/10, register summary). -/
theorem regionIndex_isSome_iff (index : Byte) :
    (regionIndex index).isSome = true ↔ 0x20 ≤ index.toNat ∧ index.toNat ≤ 0x2F := by
  have htwo : index.extractLsb' 4 4 = 2 ↔ index.toNat / 16 = 2 := by
    rw [← BitVec.toNat_inj, extractLsb'_high_toNat]
    rfl
  unfold regionIndex
  by_cases h : index.extractLsb' 4 4 = 2
  · rw [if_pos h]
    have := htwo.mp h
    simp only [Option.isSome_some, true_iff]
    omega
  · rw [if_neg h]
    have := mt htwo.mpr h
    simp only [Option.isSome_none, Bool.false_eq_true, false_iff]
    omega

theorem regionIndex_none {index : Byte} (h : index.toNat < 0x20 ∨ 0x30 ≤ index.toNat) : regionIndex index = none := by
  rw [← Option.not_isSome_iff_eq_none, regionIndex_isSome_iff]
  omega

theorem isReadOnly_iff (index : Byte) : isReadOnly index = true ↔ index.toNat = 0 ∨ index.toNat = 2 ∨
    (6 ≤ index.toNat ∧ index.toNat ≤ 11) ∨ index.toNat = 0x11 ∨ (0x30 ≤ index.toNat ∧ index.toNat ≤ 0x3C) := by
  simp [isReadOnly, ← BitVec.toNat_inj, or_assoc]

/-- A byte is no index with a number other than its own. -/
theorem index_ne {index c : Byte} (h : index.toNat ≠ c.toNat) : index ≠ c := fun hc => h (congrArg _ hc)

/-! ### Register writes -/

/-- A WRITE of an index that no writable register has is answered without effect (R183, R184). -/
theorem writeRegister_unwritable {index : Byte} (v : Word) (s : State)
    (h : index.toNat = 0 ∨ index.toNat = 2 ∨ (6 ≤ index.toNat ∧ index.toNat ≤ 11) ∨
      (0x11 ≤ index.toNat ∧ index.toNat ≤ 0x1F) ∨ 0x30 ≤ index.toNat) :
    writeRegister index v s = if isReadOnly index then respond .refused s else respond .noRegister s := by
  have hregion : regionIndex index = none := regionIndex_none (by omega)
  unfold writeRegister
  rw [if_neg (index_ne (c := 0x01) (by simp; omega)), if_neg (index_ne (c := 0x03) (by simp; omega)),
    if_neg (index_ne (c := 0x04) (by simp; omega)), if_neg (index_ne (c := 0x05) (by simp; omega)),
    if_neg (index_ne (c := 0x0C) (by simp; omega)), if_neg (index_ne (c := 0x0D) (by simp; omega)),
    if_neg (index_ne (c := 0x0E) (by simp; omega)), if_neg (index_ne (c := 0x0F) (by simp; omega)),
    if_neg (index_ne (c := 0x10) (by simp; omega)), hregion]

/-- The port holds the answer of a WRITE (R181, R183). -/
def Answered (s : State) : Prop := ∃ r, s.sp.phase = .response ∧ s.sp.dataOut = 0 ∧ s.sp.response = some r

theorem answered_respond (r : Response) (s : State) : Answered (respond r s) := ⟨r, rfl, rfl, rfl⟩

theorem answered_acceptIf (ok : Bool) (f : State → State) (s : State) : Answered (acceptIf ok f s) := by
  unfold acceptIf
  split <;> exact answered_respond _ _

theorem answered_writeSettings (c : Option Settings) (s : State) : Answered (writeSettings c s) := by
  cases c <;> exact answered_respond _ _

theorem answered_writeCopySettings (c : Option Settings) (s : State) : Answered (writeCopySettings c s) := by
  cases c <;> exact answered_respond _ _

theorem answered_commandDrain (s : State) : Answered (commandDrain s) := by
  unfold commandDrain
  dsimp only
  (repeat' split) <;> exact answered_respond _ _

theorem answered_writeCommand (code : Byte) (s : State) : Answered (writeCommand code s) := by
  unfold writeCommand
  split; · exact answered_acceptIf _ _ s
  split; · exact answered_acceptIf _ _ s
  split; · exact answered_acceptIf _ _ s
  split; · exact answered_acceptIf _ _ s
  split; · exact answered_acceptIf _ _ s
  split; · exact answered_acceptIf _ _ s
  split; · exact answered_commandDrain s
  split; · exact answered_acceptIf _ _ s
  split; · exact answered_respond _ _
  split; · exact ⟨_, rfl, rfl, rfl⟩
  exact answered_respond _ _

/-- A WRITE of any index is answered (R183). -/
theorem answered_writeRegister (index : Byte) (v : Word) (s : State) : Answered (writeRegister index v s) := by
  unfold writeRegister
  split; · exact answered_respond _ _
  split; · exact answered_writeCommand _ s
  split; · exact answered_respond _ _
  split; · exact answered_respond _ _
  split
  · unfold writeLinkcfgRegister
    split
    · exact answered_writeSettings _ s
    · exact answered_respond _ _
  split; · exact answered_writeSettings _ s
  split; · exact answered_writeSettings _ s
  split; · exact answered_writeCopySettings _ s
  split; · exact answered_writeCopySettings _ s
  split
  · exact answered_acceptIf _ _ s
  · split <;> exact answered_respond _ _

/-- A whole WRITE on a ready port (R181, R183). -/
theorem exec_registerWrite {s : State} (index b0 b1 b2 b3 : Byte) (hp : s.porst = false) (hready : s.portReady) :
    exec (.registerWrite index [b0, b1, b2, b3]) s = .next (writeRegister index (b3 ++ (b2 ++ (b1 ++ b0)))
      { s with sp := { s.sp with phase := .data 2 index [b0, b1, b2], dataOut := 0, response := none } }) := by
  have hserved := whenServed_eq (writeTransaction index [b0, b1, b2, b3]) s hp hready.1 hready.2
  rw [writeTransaction_whole] at hserved
  exact congrArg _ hserved

/-- The low byte of a register value is its first DATA byte (R181). -/
theorem getLsbD_firstByte (b0 b1 b2 b3 : Byte) {k : Nat} (hk : k < 8) :
    (b3 ++ (b2 ++ (b1 ++ b0)) : Word).getLsbD k = b0.getLsbD k := by
  simp only [BitVec.getLsbD_append, hk, if_true, show k < 8 + 8 by omega, show k < 8 + (8 + 8) by omega]

/-- A link enable written as it stands, with the link in the state that goes with it, changes nothing (R137, R185). -/
theorem setEnable_same {s : State} {v : Bool} (hv : s.control.linkEnable = v)
    (hlink : s.link.state = .off ↔ s.control.linkEnable = false) : setEnable v s = s := by
  subst hv
  unfold setEnable
  cases h : s.control.linkEnable with
  | true =>
    have hon : s.link.state ≠ .off := by simp [hlink, h]
    simp [setLinkEnable, hon, ← h]
  | false => simp [clearLinkEnable, hlink.mpr h, ← h]

/-! ### Transactions judged at the INDEX byte -/

theorem exec_invalidOpcode {s : State} (opcode index : Byte) (hp : s.porst = false) (hready : s.portReady) :
    exec (.invalidOpcode opcode index) s = .next (takeAtIndexByte opcode index (selectPort (deselectPort s))) := by
  have hserved := whenServed_eq (clockHead opcode index) s hp hready.1 hready.2
  rw [clockHead_selected] at hserved
  exact congrArg _ hserved

/-- A READ at its INDEX byte (R182). -/
theorem takeAtIndexByte_read (index : Byte) (s : State) : takeAtIndexByte 1 index s = { s with
    sp := { s.sp with
      phase := .data 1 index []
      dataOut := (readRegister index s).getD 0
      response := some (if (readRegister index s).isSome then .accepted else .noRegister) } } := by
  unfold takeAtIndexByte
  cases readRegister index s <;> rfl

/-- A READ finds the register as it stood before the transaction (R182). -/
theorem exec_read {s : State} (index : Byte) (hp : s.porst = false) (hready : s.portReady) :
    exec (.invalidOpcode 1 index) s = .next (takeAtIndexByte 1 index s) := by
  rw [exec_invalidOpcode 1 index hp hready, takeAtIndexByte_read, takeAtIndexByte_read]
  rfl

end Sys2Proof.Machine
end

section
/-! Register reads: which indices name a register and what each register's value spells (R182, R190 to R192). -/

namespace Sys2Proof.Machine

/-! ### Fields of a word -/

theorem toNat_append_eq {m n : Nat} (a : BitVec m) (b : BitVec n) : (a ++ b).toNat = a.toNat * 2 ^ n + b.toNat := by
  rw [BitVec.toNat_append, ← Nat.shiftLeft_add_eq_or_of_lt b.isLt, Nat.shiftLeft_eq]

/-- Two fields with `k` bits between them that read 0. -/
theorem toNat_fieldsAt {m k n : Nat} (a : BitVec m) (b : BitVec n) :
    (a ++ (0#k ++ b)).toNat = b.toNat + 2 ^ (k + n) * a.toNat := by
  rw [toNat_append_eq, toNat_append_eq, BitVec.toNat_ofNat, Nat.zero_mod, Nat.zero_mul, Nat.zero_add, Nat.add_comm,
    Nat.mul_comm]

theorem toNat_word {n : Nat} (a : BitVec n) (h : n ≤ 32) : (a.setWidth 32).toNat = a.toNat :=
  BitVec.toNat_setWidth_of_le h

/-- Byte `k` of a word, which SPDO carries after `k` DATA bytes (R181). -/
theorem extractLsb'_byte (w : Word) (k : Nat) : w.extractLsb' (8 * k) 8 = BitVec.ofNat 8 (w.toNat / 256 ^ k) := by
  have h256 : (256 : Nat) ^ k = 2 ^ (8 * k) := by rw [pow_mul]; rfl
  rw [h256, ← Nat.shiftRight_eq_div_pow]
  rfl

/-! ### Which indices name a register -/

theorem readCounter_eq_none_iff (index : Byte) (s : State) :
    readCounter index s = none ↔ ¬ (0x30 ≤ index.toNat ∧ index.toNat ≤ 0x3C) := by
  unfold readCounter
  split <;> simp_all

/-- Each index up to 0x11 names a register (spec/10, register summary). -/
theorem readRegister_isSome_of_low {index : Byte} (s : State) (h : index.toNat < 0x12) :
    (readRegister index s).isSome = true := by
  obtain ⟨n, hn⟩ : ∃ n, n = index.toNat := ⟨_, rfl⟩
  have hi : index = BitVec.ofNat 8 n := by simp [hn]
  rw [← hn] at h
  subst hi
  interval_cases n <;> rfl

theorem readRegister_region {index : Byte} (s : State) {n : Fin 8} {half : RegionHalf}
    (hr : regionIndex index = some (n, half)) : readRegister index s = some (readRegion n half s) := by
  have hindex : 0x20 ≤ index.toNat := ((regionIndex_isSome_iff index).mp (by rw [hr]; rfl)).1
  unfold readRegister
  repeat rw [if_neg (index_ne (by simp; omega))]
  rw [hr]

theorem readRegister_counter {index : Byte} (s : State) (h : 0x12 ≤ index.toNat) (hr : regionIndex index = none) :
    readRegister index s = readCounter index s := by
  unfold readRegister
  repeat rw [if_neg (index_ne (by simp; omega))]
  rw [hr]

theorem readRegister_eq_none_iff (index : Byte) (s : State) :
    readRegister index s = none ↔ (0x12 ≤ index.toNat ∧ index.toNat ≤ 0x1F) ∨ 0x3D ≤ index.toNat := by
  have hregion := regionIndex_isSome_iff index
  by_cases hlow : index.toNat < 0x12
  · rw [← Option.not_isSome_iff_eq_none, readRegister_isSome_of_low s hlow]
    simp only [not_true_eq_false, false_iff]
    omega
  · cases hr : regionIndex index with
    | some region =>
      simp only [hr, Option.isSome_some, true_iff] at hregion
      simp only [readRegister_region s hr, reduceCtorEq, false_iff]
      omega
    | none =>
      simp only [hr, Option.isSome_none, Bool.false_eq_true, false_iff] at hregion
      rw [readRegister_counter s (by omega) hr, readCounter_eq_none_iff]
      omega

/-! ### CONTROL and STATUS -/

theorem readControl_bits (s : State) : (readControl s).getLsbD 0 = s.control.merge ∧
    (readControl s).getLsbD 1 = decide (s.control.arb = .systemFirst) ∧
    (readControl s).getLsbD 2 = decide (s.control.pace = .track) ∧
    (readControl s).getLsbD 3 = s.control.linkEnable ∧ (readControl s).getLsbD 8 = decide (s.role = .origin) := by
  simp only [readControl, BitVec.getLsbD_setWidth, BitVec.getLsbD_append]
  simp

theorem readControl_unused (s : State) {k : Nat} (hk : (3 < k ∧ k < 8) ∨ 8 < k) : (readControl s).getLsbD k = false := by
  rw [readControl, BitVec.getLsbD_setWidth]
  rcases hk with hk | hk
  · obtain ⟨j, rfl⟩ : ∃ j, k = 4 + j := ⟨k - 4, by omega⟩
    simp only [BitVec.getLsbD_append]
    simp [show 4 + j < 8 by omega]
  · rw [BitVec.getLsbD_of_ge _ k (by omega), Bool.and_false]

/-- The fields of STATUS, from its low bit up (spec/10, register summary). -/
theorem readStatus_fields (s : State) : (readStatus s).extractLsb' 0 2 = roleStateCode s ∧
    (readStatus s).extractLsb' 2 2 = linkStateCode s.link.state ∧ (readStatus s).extractLsb' 4 4 = s.link.session := by
  refine ⟨?_, ?_, ?_⟩
  · ext k hk
    simp only [readStatus, BitVec.getElem_extractLsb', BitVec.getLsbD_setWidth, BitVec.getLsbD_append]
    simp [show k < 32 by omega, show k < 14 by omega, show k < 8 by omega, show k < 4 by omega, hk]
  · ext k hk
    simp only [readStatus, BitVec.getElem_extractLsb', BitVec.getLsbD_setWidth, BitVec.getLsbD_append]
    simp [show 2 + k < 32 by omega, show 2 + k < 14 by omega, show 2 + k < 8 by omega, show 2 + k < 4 by omega,
      show ¬ 2 + k ≤ 1 by omega, BitVec.getLsbD_eq_getElem hk]
  · ext k hk
    simp only [readStatus, BitVec.getElem_extractLsb', BitVec.getLsbD_setWidth, BitVec.getLsbD_append]
    simp [show 4 + k < 32 by omega, show 4 + k < 14 by omega, show 4 + k < 8 by omega,
      BitVec.getLsbD_eq_getElem hk]

/-- The flags of STATUS above the session: the six of the origin, then the three of the replica. -/
theorem readStatus_flags (s : State) (k : Nat) : (readStatus s).getLsbD (8 + k) =
    if k < 6 then (statusOriginBits s).getLsbD k else (statusReplicaBits s).getLsbD (k - 6) := by
  simp only [readStatus, BitVec.getLsbD_setWidth, BitVec.getLsbD_append]
  by_cases hk : k < 6
  · simp [hk, show 8 + k < 32 by omega, show 8 + k < 14 by omega]
  · have hreplica : 8 + k - 14 = k - 6 := by omega
    by_cases hw : 8 + k < 32
    · simp [hk, hw, hreplica, show ¬ 8 + k < 14 by omega]
    · simp [hk, hw, BitVec.getLsbD_of_ge (statusReplicaBits s) (k - 6) (by omega)]

theorem statusOriginBits_flags (s : State) (h : s.role = .origin) : (statusOriginBits s).getLsbD 0 = s.held ∧
    (statusOriginBits s).getLsbD 1 = s.copy.paused ∧ (statusOriginBits s).getLsbD 2 = s.mirror.incomplete ∧
    (statusOriginBits s).getLsbD 3 = s.mirror.pendingMark.isSome ∧ (statusOriginBits s).getLsbD 4 = s.drainPending ∧
    (statusOriginBits s).getLsbD 5 = s.mirror.drainConsistent := by
  simp only [statusOriginBits, h, BitVec.getLsbD_append]
  simp

theorem statusReplicaBits_flags (s : State) (h : s.role = .replica) :
    (statusReplicaBits s).getLsbD 0 = s.apply.coherent ∧ (statusReplicaBits s).getLsbD 1 = s.apply.fresh ∧
    (statusReplicaBits s).getLsbD 2 = s.apply.fault := by
  simp only [statusReplicaBits, h, BitVec.getLsbD_append]
  simp

theorem held_iff (s : State) : s.held = true ↔ ∃ t, s.sys.phase = .held t := by
  unfold State.held
  split <;> simp_all

/-! ### Configuration, occupancy, regions and counters -/

theorem readRegister_linkcfg (s : State) : (readRegister 0x0C s).map BitVec.toNat =
    some (s.cfg.divisor.toNat + 2 ^ 16 * s.cfg.window.toNat) :=
  congrArg some ((toNat_word _ (by decide)).trans (toNat_fieldsAt (k := 8) s.cfg.window s.cfg.divisor))

theorem readRegister_ackcfg (s : State) : (readRegister 0x0D s).map BitVec.toNat =
    some (s.cfg.ackTimeout.toNat + 2 ^ 16 * s.cfg.retryLimit.toNat) :=
  congrArg some ((toNat_word _ (by decide)).trans (toNat_fieldsAt (k := 4) s.cfg.retryLimit s.cfg.ackTimeout))

theorem readRegister_keepcfg (s : State) : (readRegister 0x0E s).map BitVec.toNat =
    some (s.cfg.keepalive.toNat + 2 ^ 16 * s.cfg.silence.toNat) :=
  congrArg some (toNat_fieldsAt (k := 2) s.cfg.silence s.cfg.keepalive)

theorem readRegister_pacecfg (s : State) : (readRegister 0x0F s).map BitVec.toNat =
    some (s.cfg.highWatermark.toNat + 2 ^ 10 * s.cfg.copyCeiling.toNat + 2 ^ 20 * s.cfg.stallLimit.toNat) := by
  have hlow := toNat_append_eq s.cfg.copyCeiling s.cfg.highWatermark
  have hword := (toNat_word _ (by decide)).trans
    (toNat_fieldsAt (k := 1) s.cfg.stallLimit (s.cfg.copyCeiling ++ s.cfg.highWatermark))
  refine congrArg some (hword.trans ?_)
  omega

theorem readRegister_copycfg (s : State) : (readRegister 0x10 s).map BitVec.toNat =
    some (s.cfg.copyPacing.toNat + 2 ^ 16 * s.cfg.ackEvery.toNat) :=
  congrArg some ((toNat_word _ (by decide)).trans (toNat_fieldsAt (k := 6) s.cfg.ackEvery s.cfg.copyPacing))

theorem originOnly_origin {s : State} (h : s.role = .origin) (v : Word) : originOnly s v = v := if_pos h

theorem originOnly_replica {s : State} (h : s.role = .replica) (v : Word) : originOnly s v = 0 := by
  simp [originOnly, h]

/-- JOURNAL holds both counts whole: neither passes the journal's 512 entries (R9, R12). -/
theorem readRegister_journal {s : State} (h : s.role = .origin) (hwf : s.journal.wf = true) :
    (readRegister 0x06 s).map BitVec.toNat = some (s.journal.entries.length + 2 ^ 16 * s.journal.sendPoint) := by
  have hlen := s.journal.entries_length_le hwf
  have hsend := s.journal.sendPoint_le hwf
  have hvalue : readRegister 0x06 s =
      some (originOnly s (BitVec.ofNat 16 s.journal.inFlight ++ BitVec.ofNat 16 s.journal.occupancy)) := rfl
  rw [hvalue, originOnly_origin h]
  refine congrArg some ((toNat_append_eq _ _).trans ?_)
  rw [BitVec.toNat_ofNat, BitVec.toNat_ofNat, Journal.inFlight, Journal.occupancy]
  omega

theorem regionIndex_base : ∀ n : Fin 8, regionIndex (BitVec.ofNat 8 (0x20 + 2 * n.val)) = some (n, .base) := by decide

theorem regionIndex_limit : ∀ n : Fin 8, regionIndex (BitVec.ofNat 8 (0x21 + 2 * n.val)) = some (n, .limit) := by decide

theorem toNat_ofBool_eq_ite (b : Bool) : (BitVec.ofBool b).toNat = if b = true then 1 else 0 := by cases b <;> rfl

theorem readRegionBase_toNat (r : Region) : (readRegionBase r).toNat = r.base.toNat +
    2 ^ 16 * (if r.mode = .mirror then 1 else 0) + 2 ^ 31 * (if r.enable then 1 else 0) := by
  have hlow := toNat_append_eq (BitVec.ofBool (r.mode = .mirror)) r.base
  have hword := toNat_fieldsAt (k := 14) (BitVec.ofBool r.enable) (BitVec.ofBool (r.mode = .mirror) ++ r.base)
  rw [toNat_ofBool_eq_ite] at hlow hword
  simp only [decide_eq_true_eq] at hlow
  refine hword.trans ?_
  omega

theorem readRegister_regionBase (n : Fin 8) (s : State) :
    (readRegister (BitVec.ofNat 8 (0x20 + 2 * n.val)) s).map BitVec.toNat = some (s.regions[n].base.toNat +
      2 ^ 16 * (if s.regions[n].mode = .mirror then 1 else 0) + 2 ^ 31 * (if s.regions[n].enable then 1 else 0)) := by
  rw [readRegister_region s (regionIndex_base n)]
  exact congrArg some (readRegionBase_toNat _)

theorem readRegister_regionLimit (n : Fin 8) (s : State) :
    (readRegister (BitVec.ofNat 8 (0x21 + 2 * n.val)) s).map BitVec.toNat = some s.regions[n].limit.toNat := by
  rw [readRegister_region s (regionIndex_limit n)]
  exact congrArg some (toNat_word _ (by decide))

/-- Each counter is read at 0x30 and its place (R190). -/
theorem readRegister_ofCounter (c : Counter) (s : State) :
    (readRegister (BitVec.ofNat 8 (0x30 + c.index.val)) s).map BitVec.toNat = some (s.counter c).toNat := by
  have hvalue : readRegister (BitVec.ofNat 8 (0x30 + c.index.val)) s = some ((s.counter c).setWidth 32) := by
    cases c <;> rfl
  rw [hvalue]
  exact congrArg some (toNat_word _ (by decide))

/-! ### The obligation -/

/-- The byte that SPDO carries is that of the port's phase (R181). -/
theorem spdo_eq (p : ServicePort) : p.spdo = match p.phase with
    | .deselected | .ignored => none
    | .opcode | .index _ | .done => some 0
    | .data _ _ received => some (BitVec.ofNat 8 (p.dataOut.toNat / 256 ^ received.length))
    | .response => some (match p.response with
      | some .accepted => 1
      | some .refused => 2
      | some .noRegister => 3
      | some .busy => 4
      | none => 0) := by
  unfold ServicePort.spdo
  cases p.phase with
  | data opcode index received => exact congrArg some (extractLsb'_byte _ _)
  | response =>
    cases p.response with
    | none => rfl
    | some r => cases r <;> rfl
  | _ => rfl

/-- A READ at its INDEX byte, with the register's value or without one (R182). -/
theorem exec_read_value {s : State} (index : Byte) (hp : s.porst = false) (hready : s.portReady) :
    (∀ w, readRegister index s = some w →
      takeAtIndexByte 1 index s = { s with
        sp := { s.sp with phase := .data 1 index [], dataOut := w, response := some .accepted } } ∧
      exec (.invalidOpcode 1 index) s = .next (takeAtIndexByte 1 index s)) ∧
    (readRegister index s = none →
      takeAtIndexByte 1 index s = { s with
        sp := { s.sp with phase := .data 1 index [], dataOut := 0, response := some .noRegister } } ∧
      exec (.invalidOpcode 1 index) s = .next (takeAtIndexByte 1 index s)) := by
  refine ⟨fun w hw => ⟨?_, exec_read index hp hready⟩, fun hnone => ⟨?_, exec_read index hp hready⟩⟩
  · rw [takeAtIndexByte_read, hw]
    rfl
  · rw [takeAtIndexByte_read, hnone]
    rfl

/-- A WRITE of the whole CONTROL register that leaves the link enable as it is sets the three fields (R185). -/
theorem exec_writeControl {s : State} (hp : s.porst = false) (hready : s.portReady) (b0 b1 b2 b3 : Byte)
    (henable : s.control.linkEnable = b0.getLsbD 3) (hlink : s.link.state = .off ↔ s.control.linkEnable = false) :
    exec (.registerWrite 0x01 [b0, b1, b2, b3]) s = .next { s with
      sp := s.answered .accepted
      control := { s.control with
        merge := b0.getLsbD 0, arb := if b0.getLsbD 1 then .systemFirst else .alternate
        pace := if b0.getLsbD 2 then .track else .stall } } := by
  rw [exec_registerWrite 0x01 b0 b1 b2 b3 hp hready]
  refine congrArg _ ?_
  show writeControl _ _ = _
  unfold writeControl
  rw [getLsbD_firstByte b0 b1 b2 b3 (k := 0) (by decide), getLsbD_firstByte b0 b1 b2 b3 (k := 1) (by decide),
    getLsbD_firstByte b0 b1 b2 b3 (k := 2) (by decide), getLsbD_firstByte b0 b1 b2 b3 (k := 3) (by decide),
    setEnable_same]
  · rfl
  · exact henable
  · exact hlink

theorem exec_controlMerge {s : State} (v : Bool) (hp : s.porst = false) (hready : s.portReady) :
    exec (.controlMerge v) s = .next { s with sp := s.answered .accepted, control.merge := v } :=
  congrArg _ (whenServed_eq _ s hp hready.1 hready.2)

theorem exec_controlPace {s : State} (v : PacePolicy) (hp : s.porst = false) (hready : s.portReady) :
    exec (.controlPace v) s = .next { s with sp := s.answered .accepted, control.pace := v } :=
  congrArg _ (whenServed_eq _ s hp hready.1 hready.2)

/-- CAUSE and ENABLE take the value that the four DATA bytes spell (R181, R191, R192). -/
theorem exec_writeCauseAndEnable {s : State} (b0 b1 b2 b3 : Byte) (hp : s.porst = false) (hready : s.portReady) :
    exec (.registerWrite 0x04 [b0, b1, b2, b3]) s = exec (.cause (b3 ++ (b2 ++ (b1 ++ b0)))) s ∧
    exec (.registerWrite 0x05 [b0, b1, b2, b3]) s = exec (.enable (b3 ++ (b2 ++ (b1 ++ b0)))) s := by
  constructor
  · rw [exec_registerWrite 0x04 b0 b1 b2 b3 hp hready]
    exact congrArg _ (whenServed_eq (writeCause _) s hp hready.1 hready.2).symm
  · rw [exec_registerWrite 0x05 b0 b1 b2 b3 hp hready]
    exact congrArg _ (whenServed_eq (writeEnable _) s hp hready.1 hready.2).symm

/-- A WRITE of an index that no writable register has changes nothing (R183, R184). -/
theorem exec_registerWrite_unwritable {s : State} (index b0 b1 b2 b3 : Byte) (hp : s.porst = false)
    (hready : s.portReady) (h : index.toNat = 0 ∨ index.toNat = 2 ∨ (6 ≤ index.toNat ∧ index.toNat ≤ 11) ∨
      (0x11 ≤ index.toNat ∧ index.toNat ≤ 0x1F) ∨ 0x30 ≤ index.toNat) :
    exec (.registerWrite index [b0, b1, b2, b3]) s = .next { s with
      sp := s.answered (if isReadOnly index then .refused else .noRegister) } := by
  rw [exec_registerWrite index b0 b1 b2 b3 hp hready, writeRegister_unwritable _ _ h]
  split <;> rfl

/-- A WRITE that loses SPSEL before its fourth DATA byte leaves the port deselected (R183). -/
theorem exec_registerWrite_short {s : State} (index : Byte) {data : List Byte} (hp : s.porst = false)
    (hready : s.portReady) (h : data.length < 4) : exec (.registerWrite index data) s = .next { s with
      sp := { s.sp with phase := .deselected, dataOut := 0, response := none } } := by
  have hserved := whenServed_eq (writeTransaction index data) s hp hready.1 hready.2
  exact congrArg _ (hserved.trans (writeTransaction_short index data (deselectPort s) h))

/-- An opcode that is neither READ nor WRITE is answered REFUSED with DATA bytes 0 (R182). -/
theorem exec_invalidOpcode_refused {s : State} {opcode : Byte} (index : Byte) (hp : s.porst = false)
    (hready : s.portReady) (hread : opcode ≠ 1) (hwrite : opcode ≠ 2) :
    exec (.invalidOpcode opcode index) s = .next { s with
      sp := { s.sp with phase := .data opcode index [], dataOut := 0, response := some .refused } } := by
  rw [exec_invalidOpcode opcode index hp hready, takeAtIndexByte, if_neg hread, if_neg hwrite]
  rfl

/-- STATUS above the session in the ORIGIN role. -/
theorem readStatus_origin {s : State} (h : s.role = .origin) :
    ((readStatus s).getLsbD 8 = true ↔ ∃ t, s.sys.phase = .held t) ∧ (readStatus s).getLsbD 9 = s.copy.paused ∧
    (readStatus s).getLsbD 10 = s.mirror.incomplete ∧ (readStatus s).getLsbD 11 = s.mirror.pendingMark.isSome ∧
    (readStatus s).getLsbD 12 = decide (s.mirror.drain ≠ .clear) ∧
    (readStatus s).getLsbD 13 = s.mirror.drainConsistent ∧ ∀ k, 13 < k → (readStatus s).getLsbD k = false := by
  obtain ⟨hheld, hpaused, hincomplete, hpending, hdrain, hconsistent⟩ := statusOriginBits_flags s h
  refine ⟨?_, (readStatus_flags s 1).trans hpaused, (readStatus_flags s 2).trans hincomplete,
    (readStatus_flags s 3).trans hpending, ((readStatus_flags s 4).trans hdrain).trans ?_,
    (readStatus_flags s 5).trans hconsistent, fun k hk => ?_⟩
  · rw [← held_iff, ← hheld]
    exact iff_of_eq (congrArg (· = true) (readStatus_flags s 0))
  · simp [State.drainPending, bne, beq_eq_decide]
  · obtain ⟨j, rfl⟩ : ∃ j, k = 8 + j := ⟨k - 8, by omega⟩
    have hzero : statusReplicaBits s = 0 := by simp [statusReplicaBits, h]
    rw [readStatus_flags, if_neg (by omega), hzero]
    exact BitVec.getLsbD_zero

/-- STATUS above the session in the REPLICA role. -/
theorem readStatus_replica {s : State} (h : s.role = .replica) :
    (∀ k, (7 < k ∧ k < 14) ∨ 16 < k → (readStatus s).getLsbD k = false) ∧
    (readStatus s).getLsbD 14 = s.apply.coherent ∧ (readStatus s).getLsbD 15 = s.apply.fresh ∧
    (readStatus s).getLsbD 16 = s.apply.fault := by
  obtain ⟨hcoherent, hfresh, hfault⟩ := statusReplicaBits_flags s h
  refine ⟨fun k hk => ?_, (readStatus_flags s 6).trans hcoherent, (readStatus_flags s 7).trans hfresh,
    (readStatus_flags s 8).trans hfault⟩
  obtain ⟨j, rfl⟩ : ∃ j, k = 8 + j := ⟨k - 8, by omega⟩
  have hzero : statusOriginBits s = 0 := by simp [statusOriginBits, h]
  rw [readStatus_flags]
  by_cases hj : j < 6
  · rw [if_pos hj, hzero]
    exact BitVec.getLsbD_zero
  · rw [if_neg hj]
    exact BitVec.getLsbD_of_ge _ _ (by omega)

theorem roleStateCode_toNat (s : State) : (roleStateCode s).toNat =
    match s.role, s.mirror.state, s.mirror.replica with
    | .origin, .disabled, _ => 0
    | .origin, .tracking, _ => 1
    | .origin, .resyncing, _ => 2
    | .origin, .synced, _ => 3
    | .replica, _, .disabled => 0
    | .replica, _, .listening => 1
    | .replica, _, .applying => 2 := by
  unfold roleStateCode
  cases s.role with
  | origin => cases s.mirror.state <;> rfl
  | replica => cases s.mirror.replica <;> rfl

theorem linkStateCode_toNat (l : LinkState) : (linkStateCode l).toNat =
    match l with
    | .off => 0
    | .down => 1
    | .connecting => 2
    | .up => 3 := by
  cases l <;> rfl

/-- Settles O45: what a WRITE of any index answers and sets, and what a READ of each register returns. -/
theorem registerWritesSetOneFieldOrAreAnswered : Obligations.RegisterWritesSetOneFieldOrAreAnswered := by
  unfold Obligations.RegisterWritesSetOneFieldOrAreAnswered
  refine ⟨fun s hp hready => ?_, fun index s hp hready => ?_, fun s => ?_⟩
  · exact ⟨fun v => exec_controlMerge v hp hready, fun v => exec_controlPace v hp hready,
      exec_writeControl hp hready, fun b0 b1 b2 b3 => exec_writeCauseAndEnable b0 b1 b2 b3 hp hready⟩
  · obtain ⟨hsome, hnone⟩ := exec_read_value index hp hready
    refine ⟨fun b0 b1 b2 b3 h => ?_, fun b0 b1 b2 b3 h => ?_, fun b0 b1 b2 b3 => ?_,
      fun data h => exec_registerWrite_short index hp hready h,
      fun opcode hread hwrite => exec_invalidOpcode_refused index hp hready hread hwrite, hsome, hnone,
      readRegister_eq_none_iff index s, spdo_eq s.sp⟩
    · rw [exec_registerWrite_unwritable index b0 b1 b2 b3 hp hready (by omega), if_pos ((isReadOnly_iff index).mpr h)]
    · rw [exec_registerWrite_unwritable index b0 b1 b2 b3 hp hready (by omega),
        if_neg (by rw [isReadOnly_iff]; omega)]
    · obtain ⟨r, hphase, hdata, hresponse⟩ := answered_writeRegister index (b3 ++ (b2 ++ (b1 ++ b0)))
        { s with sp := { s.sp with phase := .data 2 index [b0, b1, b2], dataOut := 0, response := none } }
      exact ⟨_, r, exec_registerWrite index b0 b1 b2 b3 hp hready, hphase, hdata, hresponse⟩
  · obtain ⟨hmerge, harb, hpace, henable, hrole⟩ := readControl_bits s
    obtain ⟨hcode, hlink, hsession⟩ := readStatus_fields s
    refine ⟨rfl, ⟨_, rfl, hmerge, harb, hpace, henable, hrole, fun k hk => readControl_unused s hk⟩,
      ⟨_, rfl, ?_, ?_, hsession, readStatus_origin, readStatus_replica⟩, rfl,
      congrArg some (toNat_word _ (by decide)), congrArg some (toNat_word _ (by decide)), fun h => ?_, fun h => ?_,
      readRegister_linkcfg s, readRegister_ackcfg s, readRegister_keepcfg s, readRegister_pacecfg s,
      readRegister_copycfg s, fun n => ⟨readRegister_regionBase n s, readRegister_regionLimit n s⟩,
      fun c => readRegister_ofCounter c s⟩
    · rw [hcode]
      exact roleStateCode_toNat s
    · rw [hlink]
      exact linkStateCode_toNat s.link.state
    · refine ⟨readRegister_journal h, congrArg some (originOnly_origin h _), ?_, congrArg some (if_pos h),
        congrArg some (if_pos h), congrArg some (if_pos h), ?_⟩
      · exact congrArg some ((congrArg BitVec.toNat (originOnly_origin h _)).trans (toNat_word _ (by decide)))
      · exact congrArg some ((congrArg BitVec.toNat (originOnly_origin h _)).trans (toNat_word _ (by decide)))
    · have hnot : s.role ≠ .origin := by simp [h]
      exact ⟨congrArg some (originOnly_replica h _), congrArg some (originOnly_replica h _),
        congrArg some (originOnly_replica h _), congrArg some (if_neg hnot), congrArg some (if_neg hnot),
        congrArg some (if_neg hnot), congrArg some (originOnly_replica h _)⟩

end Sys2Proof.Machine
end

section
/-! Every step keeps the dirty map in form, its count the number of its set bits (R28): most commands leave the map as
it is, and the others act on it by mark, seed, take-next and clear-all alone. -/

namespace Sys2Proof.Machine

/-- What an operation that leads from `s` to `t` keeps: the form of the dirty map. -/
def KeepsMap (s t : State) : Prop := s.dirty.wf = true → t.dirty.wf = true

namespace KeepsMap

theorem trans {s t u : State} (h1 : KeepsMap s t) (h2 : KeepsMap t u) : KeepsMap s u := fun h => h2 (h1 h)

/-- An operation that does not act on the map. -/
theorem of_same {s t : State} (h : t.dirty = s.dirty) : KeepsMap s t := fun hs => h ▸ hs

/-- An operation behind one that does not act on the map. -/
theorem after {s t u : State} (h : KeepsMap t u) (hst : t.dirty = s.dirty) : KeepsMap s u := (of_same hst).trans h

/-- An operation followed by one that does not act on the map. -/
theorem andThen {s t u : State} (h : KeepsMap s t) (htu : u.dirty = t.dirty) : KeepsMap s u := h.trans (of_same htu)

theorem of_mark {s t : State} (b : Block) (h : t.dirty = s.dirty.mark b) : KeepsMap s t :=
  fun hs => h ▸ DirtyMap.wf_mark b _ hs

theorem of_seed {s t : State} (table : List Region) (h : t.dirty = s.dirty.seed table) : KeepsMap s t :=
  fun hs => h ▸ DirtyMap.wf_seed table _ hs

theorem of_takeNext {s t : State} {b : Block} (h : s.dirty.takeNext = some (b, t.dirty)) : KeepsMap s t :=
  fun hs => DirtyMap.wf_takeNext _ _ b hs h

theorem of_clearAll {s t : State} (h : t.dirty = DirtyMap.empty) : KeepsMap s t := fun _ => h ▸ DirtyMap.wf_empty

end KeepsMap

theorem keepsMap_unlessPorst {f : State → State} (h : ∀ s, KeepsMap s (f s)) (s : State) :
    KeepsMap s (unlessPorst f s) := by
  unfold unlessPorst
  split
  · exact .of_same rfl
  · exact h s

/-! ### What does not act on the map -/

@[simp] theorem masterTransaction_dirty (r : MasterRequest) (s : State) : (masterTransaction r s).dirty = s.dirty := by
  unfold masterTransaction
  dsimp only
  (repeat' split) <;> simp

@[simp] theorem completionTaken_dirty (s : State) : (completionTaken s).dirty = s.dirty := by
  unfold completionTaken
  split <;> rfl

@[simp] theorem heldWriteAckReport_dirty (s : State) : (heldWriteAckReport s).dirty = s.dirty := by
  unfold heldWriteAckReport
  dsimp only
  (repeat' split) <;> simp

@[simp] theorem dirtyMarkReport_dirty (s : State) : (dirtyMarkReport s).dirty = s.dirty := by
  unfold dirtyMarkReport
  split <;> simp

@[simp] theorem mirrorAckReport_dirty (s : State) : (mirrorAckReport s).dirty = s.dirty := by
  unfold mirrorAckReport
  split <;> simp

@[simp] theorem markPin_dirty (level : Bool) (s : State) : (markPin level s).dirty = s.dirty := by
  unfold markPin
  dsimp only
  split <;> simp

@[simp] theorem drainPin_dirty (level : Bool) (s : State) : (drainPin level s).dirty = s.dirty := by
  unfold drainPin
  dsimp only
  split <;> simp

@[simp] theorem pacingExpiry_dirty (s : State) : (pacingExpiry s).dirty = s.dirty := by
  unfold pacingExpiry
  split <;> simp

@[simp] theorem lineReadAnswer_dirty (answer : MemAnswer) (data : Line) (s : State) :
    (lineReadAnswer answer data s).dirty = s.dirty := by
  unfold lineReadAnswer
  (repeat' split) <;> simp

@[simp] theorem offerLoad_dirty (s : State) : (offerLoad s).dirty = s.dirty := by
  unfold offerLoad
  (repeat' split) <;> simp

@[simp] theorem frameBoundary_dirty (s : State) : (frameBoundary s).dirty = s.dirty := by
  unfold frameBoundary
  split <;> simp

@[simp] theorem frameEnd_dirty (s : State) : (frameEnd s).dirty = s.dirty := by
  unfold frameEnd
  split <;> simp

@[simp] theorem breakStart_dirty (s : State) : (breakStart s).dirty = s.dirty := by
  unfold breakStart
  (repeat' split) <;> rfl

@[simp] theorem breakEnd_dirty (s : State) : (breakEnd s).dirty = s.dirty := by
  unfold breakEnd
  split <;> rfl

@[simp] theorem applyTakeFrame_dirty (s : State) : (applyTakeFrame s).dirty = s.dirty := by
  unfold applyTakeFrame
  (repeat' split) <;> simp

@[simp] theorem applyWriteAnswer_dirty (answer : MemAnswer) (s : State) :
    (applyWriteAnswer answer s).dirty = s.dirty := by
  unfold applyWriteAnswer
  (repeat' split) <;> simp

@[simp] theorem receiverAlign_dirty (s : State) : (receiverAlign s).dirty = s.dirty := by
  unfold receiverAlign
  split <;> rfl

@[simp] theorem rxFraming_dirty (c : FramingCheck) (s : State) : (rxFraming c s).dirty = s.dirty := by
  unfold rxFraming
  (repeat' split) <;> simp

@[simp] theorem rxTruncation_dirty (s : State) : (rxTruncation s).dirty = s.dirty := by
  unfold rxTruncation
  split <;> simp

@[simp] theorem disposeData_dirty (bytes : List Byte) (f : Frame) (s : State) :
    (disposeData bytes f s).dirty = s.dirty := by
  unfold disposeData
  split <;> simp

@[simp] theorem disposeHello_dirty (f : Frame) (s : State) : (disposeHello f s).dirty = s.dirty := by
  unfold disposeHello
  split <;> simp

@[simp] theorem disposeAck_dirty (f : Frame) (s : State) : (disposeAck f s).dirty = s.dirty := by
  unfold disposeAck
  split <;> simp

@[simp] theorem disposeNak_dirty (f : Frame) (s : State) : (disposeNak f s).dirty = s.dirty := by
  unfold disposeNak
  split <;> simp

@[simp] theorem helloKeepaliveExpiry_dirty (s : State) : (helloKeepaliveExpiry s).dirty = s.dirty := by
  unfold helloKeepaliveExpiry
  dsimp only
  (repeat' split) <;> simp

@[simp] theorem porstDeassert_dirty (roleHigh : Bool) (pins : RequestPins) (selected : Bool) (s : State) :
    (porstDeassert roleHigh pins selected s).dirty = s.dirty := by
  unfold porstDeassert
  split <;> rfl

@[simp] theorem commandDrain_dirty (s : State) : (commandDrain s).dirty = s.dirty := by
  unfold commandDrain
  dsimp only
  (repeat' split) <;> simp

/-! ### Marks -/

theorem keepsMap_markDirty (b : Block) (s : State) : KeepsMap s (markDirty b s) := .of_mark b rfl

theorem keepsMap_capture (t : Transaction) (s : State) : KeepsMap s (capture t s) := by
  have hmark : KeepsMap s (markWrite t s) := .of_mark (blockOf t.address) (by simp [markWrite])
  unfold capture
  split
  · exact hmark
  · split
    · exact .of_same (by simp)
    · split
      · split <;> exact .of_same (by simp)
      · split
        · exact hmark
        · exact .of_same (by simp)

/-- Of the answers that memory gives, the map takes a mirrored write's at the capture point alone (R49, R50). -/
theorem keepsMap_systemAnswer (t : Transaction) (answer : MemAnswer) (data : Line) (s : State) :
    KeepsMap s (systemAnswer t answer data s) := by
  unfold systemAnswer
  cases answer with
  | error => exact .of_same (by simp)
  | ok =>
    dsimp only
    split
    · split
      · unfold originWriteOk
        dsimp only
        split
        · exact keepsMap_capture _ s
        · exact .of_same (by simp)
      · exact .of_same (by simp)
    · exact .of_same (by simp)

theorem keepsMap_settleAbandoned (m : MemTransaction) (answer : MemAnswer) (s : State) :
    KeepsMap s (settleAbandoned m answer s) := by
  unfold settleAbandoned
  split
  · exact .of_mark (blockOf m.address) (by simp)
  · exact .of_same rfl

theorem keepsMap_systemMemoryAnswer (answer : MemAnswer) (data : Line) (s : State) :
    KeepsMap s (systemMemoryAnswer answer data s) := by
  unfold systemMemoryAnswer
  split
  · split
    · split
      · exact KeepsMap.after (keepsMap_systemAnswer _ _ _ _) rfl
      · exact .of_same rfl
    · exact KeepsMap.after (keepsMap_settleAbandoned _ _ _) rfl
    · exact .of_same rfl
    · exact .of_same rfl
  · exact .of_same rfl

theorem keepsMap_stallExpiry (s : State) : KeepsMap s (stallExpiry s) := by
  unfold stallExpiry
  split
  · rename_i t _
    split
    · exact .of_mark (blockOf t.address) (by simp)
    · exact .of_same rfl
  · exact .of_same rfl

theorem keepsMap_srstAssert (s : State) : KeepsMap s (srstAssert s) := by
  have hsettle : KeepsMap s (settleSrst s) := by
    unfold settleSrst
    split
    · exact .of_same rfl
    · split <;> exact .of_same rfl
    · exact keepsMap_markDirty _ s
    · exact .of_same rfl
  unfold srstAssert
  split
  · exact .of_same rfl
  · exact hsettle.andThen rfl

/-- A link loss marks the journal's blocks and a held write's block (R25, R56, R103). -/
theorem keepsMap_linkLossTransition (s : State) : KeepsMap s (linkLossTransition s) := by
  intro hs
  have hspill := wf_spillMarks s.journal.entries _ hs
  rw [linkLossTransition_dirty]
  split
  · exact DirtyMap.wf_mark _ _ hspill
  · exact hspill

/-! ### Take-next -/

/-- A start that does not reserve marks its block again (R86). -/
theorem keepsMap_startTaken (b : Block) (s : State) : KeepsMap s (startTaken b s) := by
  unfold startTaken
  split
  · split
    · exact .of_same (by simp)
    · exact keepsMap_markDirty b s
  · exact keepsMap_markDirty b s

theorem keepsMap_takeCopyStart (s : State) : KeepsMap s (takeCopyStart s) := by
  unfold takeCopyStart
  split
  · dsimp only
    split
    · exact .of_same (by simp)
    · rename_i b m hnext
      have htaken : KeepsMap s { s with copy.pendingStart := false, dirty := m } := .of_takeNext hnext
      exact (htaken.trans (keepsMap_startTaken b _)).andThen (by simp)
  · exact .of_same rfl

/-! ### Seeds -/

theorem keepsMap_seedDirty (s : State) : KeepsMap s (seedDirty s) := .of_seed s.regions.toList rfl

/-- An origin that reaches UP seeds the map for a fresh partner alone (R100). -/
theorem keepsMap_originReachedUp (s : State) : KeepsMap s (originReachedUp s) := by
  unfold originReachedUp
  split
  · by_cases hfresh : s.link.partnerFresh = true
    · simp only [if_pos hfresh]
      split <;> exact .of_seed s.regions.toList (by simp)
    · simp only [if_neg hfresh]
      split <;> exact .of_same (by simp)
  all_goals exact .of_same rfl

theorem keepsMap_takeHelloAck (f : Frame) (fresh : Bool) (s : State) : KeepsMap s (takeHelloAck f fresh s) := by
  unfold takeHelloAck
  split
  · split
    · exact KeepsMap.after (keepsMap_originReachedUp _) (by simp)
    · exact .of_same (by simp)
  all_goals (try split) <;> exact .of_same (by simp)

theorem keepsMap_disposeHelloAck (f : Frame) (s : State) : KeepsMap s (disposeHelloAck f s) := by
  unfold disposeHelloAck
  split
  · exact keepsMap_takeHelloAck _ _ s
  · exact .of_same rfl

theorem keepsMap_reseed (s : State) : KeepsMap s (reseed s) := by
  have hseed : KeepsMap s (seedDirty { s with mirror.incomplete := false }) := KeepsMap.after (keepsMap_seedDirty _) rfl
  unfold reseed
  dsimp only
  split
  · split <;> exact hseed.andThen (by simp)
  all_goals exact hseed.andThen (by simp)

/-! ### The link leaves UP -/

theorem keepsMap_reportLeftUp (s : State) : KeepsMap s (reportLeftUp s) := by
  unfold reportLeftUp
  split
  · rw [originLeftUp_eq]
    split
    · exact keepsMap_linkLossTransition s
    · exact .of_same rfl
  · exact .of_same (by simp)

theorem keepsMap_leaveUp (dest : LeaveTo) (withBreak counted : Bool) (s : State) :
    KeepsMap s (leaveUp dest withBreak counted s) := by
  unfold leaveUp
  dsimp only
  split <;> exact KeepsMap.after (keepsMap_reportLeftUp _) (by simp)

theorem keepsMap_silenceExpiry (s : State) : KeepsMap s (silenceExpiry s) := by
  unfold silenceExpiry
  split
  · exact keepsMap_leaveUp _ _ _ s
  · exact .of_same rfl

theorem keepsMap_ackExpiry (s : State) : KeepsMap s (ackExpiry s) := by
  unfold ackExpiry
  split
  · dsimp only
    split
    · exact KeepsMap.after (keepsMap_leaveUp _ _ _ _) (by simp)
    · exact .of_same (by simp)
  · exact .of_same rfl

theorem keepsMap_breakDetected (s : State) : KeepsMap s (breakDetected s) := by
  unfold breakDetected takeBreakReport
  dsimp only
  (repeat' split)
  · exact .of_same rfl
  · exact KeepsMap.after (keepsMap_leaveUp _ _ _ _) (by simp)
  · exact .of_same (by simp)

theorem keepsMap_renewSession (s : State) : KeepsMap s (renewSession s) := by
  unfold renewSession
  split
  · exact keepsMap_leaveUp _ _ _ s
  · exact .of_same rfl

theorem keepsMap_resetLink (s : State) : KeepsMap s (resetLink s) := by
  unfold resetLink
  split
  · exact keepsMap_leaveUp _ _ _ s
  · exact .of_same (by simp)

theorem keepsMap_setEnable (v : Bool) (s : State) : KeepsMap s (setEnable v s) := by
  unfold setEnable clearLinkEnable
  dsimp only
  split
  · exact .of_same (by simp)
  · split
    · exact KeepsMap.after (keepsMap_leaveUp _ _ _ _) rfl
    all_goals exact .of_same (by simp)

/-- A frame received keeps the map in form when its disposal does. -/
theorem keepsMap_receiveBytes {dispose : Frame → State → State} (h : ∀ f s, KeepsMap s (dispose f s))
    (bytes : List Byte) (s : State) : KeepsMap s (receiveBytes dispose bytes s) := by
  unfold receiveBytes
  split
  · split
    · exact .of_same (by simp)
    · exact .of_same (by simp)
    · exact .of_same (by simp)
    · exact KeepsMap.after (h _ _) rfl
  · exact .of_same rfl

/-! ### Clear-all, and the commands of the service port -/

theorem keepsMap_takeSoftReset (pins : RequestPins) (selected : Bool) (s : State) :
    KeepsMap s (takeSoftReset pins selected s) := by
  unfold takeSoftReset
  split
  · exact .of_clearAll rfl
  · exact .of_same rfl

theorem keepsMap_stopOrigin (s : State) : KeepsMap s (stopOrigin s) :=
  (KeepsMap.of_clearAll (stopMirroring_dirty s)).trans (keepsMap_renewSession _)

theorem keepsMap_whenServed {f : State → State} (h : ∀ s, KeepsMap s (f s)) (s : State) :
    KeepsMap s (whenServed f s) := by
  unfold whenServed endTransaction
  split
  · exact .of_same rfl
  · split
    · exact .of_same rfl
    · exact ((keepsMap_takeSoftReset _ _ s).andThen (by rfl)).trans (h _)

theorem keepsMap_respond {s t : State} (r : Response) (h : KeepsMap s t) : KeepsMap s (respond r t) :=
  h.andThen (by simp)

theorem keepsMap_acceptIf {f : State → State} (ok : Bool) (h : ∀ s, KeepsMap s (f s)) (s : State) :
    KeepsMap s (acceptIf ok f s) := by
  unfold acceptIf
  split
  · exact keepsMap_respond _ (h s)
  · exact .of_same (by simp)

theorem keepsMap_commandStart (s : State) : KeepsMap s (commandStart s) := by
  refine keepsMap_acceptIf _ (fun s => ?_) s
  split
  · exact ((keepsMap_seedDirty s).andThen (by simp)).trans (keepsMap_renewSession _)
  · exact .of_same (by simp)

theorem keepsMap_commandStop (s : State) : KeepsMap s (commandStop s) := by
  refine keepsMap_acceptIf _ (fun s => ?_) s
  split
  · exact keepsMap_stopOrigin s
  · unfold stopReplica
    dsimp only
    split
    · exact KeepsMap.after (keepsMap_leaveUp _ _ _ _) (by simp)
    · exact .of_same (by simp)

theorem keepsMap_commandReseed (s : State) : KeepsMap s (commandReseed s) := keepsMap_acceptIf _ keepsMap_reseed s

theorem keepsMap_commandPause (s : State) : KeepsMap s (commandPause s) :=
  keepsMap_acceptIf _ (fun _ => .of_same (by rfl)) s

theorem keepsMap_commandResync (s : State) : KeepsMap s (commandResync s) :=
  keepsMap_acceptIf _ (fun _ => .of_same (by simp)) s

theorem keepsMap_commandMark (s : State) : KeepsMap s (commandMark s) :=
  keepsMap_acceptIf _ (fun _ => .of_same (by simp)) s

theorem keepsMap_commandLinkReset (s : State) : KeepsMap s (commandLinkReset s) :=
  keepsMap_acceptIf _ keepsMap_resetLink s

theorem keepsMap_writeCommand (code : Byte) (s : State) : KeepsMap s (writeCommand code s) := by
  unfold writeCommand
  split; · exact keepsMap_commandStart s
  split; · exact keepsMap_commandStop s
  split; · exact keepsMap_commandReseed s
  split; · exact keepsMap_commandPause s
  split; · exact keepsMap_commandResync s
  split; · exact keepsMap_commandMark s
  split; · exact .of_same (by simp)
  split; · exact keepsMap_commandLinkReset s
  (repeat' split) <;> exact .of_same rfl

theorem keepsMap_writeControl (v : Word) (s : State) : KeepsMap s (writeControl v s) :=
  keepsMap_respond _ (KeepsMap.after (keepsMap_setEnable _ _) (by simp))

theorem keepsMap_writeLinkcfgRegister (v : Word) (s : State) : KeepsMap s (writeLinkcfgRegister v s) := by
  unfold writeLinkcfgRegister
  split <;> exact .of_same (by simp)

theorem keepsMap_writeRegionRegister (n : Fin 8) (half : RegionHalf) (v : Word) (s : State) :
    KeepsMap s (writeRegionRegister n half v s) :=
  keepsMap_acceptIf _ (fun _ => .of_same (by rfl)) s

theorem keepsMap_writeRegister (index : Byte) (v : Word) (s : State) : KeepsMap s (writeRegister index v s) := by
  unfold writeRegister
  split; · exact keepsMap_writeControl v s
  split; · exact keepsMap_writeCommand _ s
  split; · exact .of_same rfl
  split; · exact .of_same rfl
  split; · exact keepsMap_writeLinkcfgRegister v s
  split; · exact .of_same (by simp [writeAckcfgRegister])
  split; · exact .of_same (by simp [writeKeepcfgRegister])
  split; · exact .of_same (by simp [writePacecfgRegister])
  split; · exact .of_same (by simp [writeCopycfgRegister])
  split
  · exact keepsMap_writeRegionRegister _ _ v s
  · split <;> exact .of_same rfl

theorem keepsMap_clockByte (b : Byte) (s : State) : KeepsMap s (clockByte b s) := by
  unfold clockByte takeAtDataEnd
  split
  case h_2 => exact .of_same (by simp)
  case h_3 =>
    split
    · exact .of_same rfl
    · split
      · exact keepsMap_writeRegister _ _ s
      · exact .of_same rfl
  all_goals exact .of_same rfl

theorem keepsMap_clockBytes (data : List Byte) (s : State) :
    KeepsMap s (data.foldl (fun s b => clockByte b s) s) := by
  induction data generalizing s with
  | nil => exact .of_same rfl
  | cons b bs ih => exact (keepsMap_clockByte b s).trans (ih _)

theorem keepsMap_clockHead (opcode index : Byte) (s : State) : KeepsMap s (clockHead opcode index s) :=
  keepsMap_clockBytes [opcode, index] s

theorem keepsMap_writeTransaction (index : Byte) (data : List Byte) (s : State) :
    KeepsMap s (writeTransaction index data s) := by
  have hclocked := (keepsMap_clockHead 0x02 index s).trans (keepsMap_clockBytes data _)
  unfold writeTransaction
  dsimp only
  split
  · exact hclocked.andThen (by simp)
  · exact hclocked

/-! ### The step -/

/-- Every command keeps the map in form. -/
theorem keepsMap_exec (c : Instr) (s t : State) (h : exec c s = .next t) : KeepsMap s t := by
  cases c <;> obtain rfl := (Host.Outcome.next.inj h)
  case systemMemoryAnswer beats data => exact keepsMap_systemMemoryAnswer _ data s
  case lineReadAnswer beats data => exact .of_same (by simp)
  case applyWriteAnswer beats => exact .of_same (by simp)
  case memoryReady => exact .of_same rfl
  case srstAssert => exact keepsMap_srstAssert s
  case srstDeassert => exact .of_same rfl
  case porstAssert => exact .of_clearAll rfl
  case porstDeassert role pins selected => exact .of_same (by simp)
  case softResetTaken pins selected => exact keepsMap_unlessPorst (keepsMap_takeSoftReset pins selected) s
  case stallTimerExpiry => exact keepsMap_unlessPorst keepsMap_stallExpiry s
  case copyStart => exact keepsMap_unlessPorst keepsMap_takeCopyStart s
  case silenceTimerExpiry => exact keepsMap_unlessPorst keepsMap_silenceExpiry s
  case ackTimerExpiry => exact keepsMap_unlessPorst keepsMap_ackExpiry s
  case breakDetected => exact keepsMap_unlessPorst keepsMap_breakDetected s
  case helloAckReceived bytes => exact keepsMap_unlessPorst (keepsMap_receiveBytes keepsMap_disposeHelloAck bytes) s
  case dataFrameReceived bytes =>
    exact keepsMap_unlessPorst (keepsMap_receiveBytes (fun _ _ => .of_same (by simp)) bytes) s
  case helloReceived bytes => exact keepsMap_unlessPorst (keepsMap_receiveBytes (fun _ _ => .of_same (by simp)) bytes) s
  case ackReceived bytes => exact keepsMap_unlessPorst (keepsMap_receiveBytes (fun _ _ => .of_same (by simp)) bytes) s
  case nakReceived bytes => exact keepsMap_unlessPorst (keepsMap_receiveBytes (fun _ _ => .of_same (by simp)) bytes) s
  case start => exact keepsMap_whenServed keepsMap_commandStart s
  case stop => exact keepsMap_whenServed keepsMap_commandStop s
  case reseed => exact keepsMap_whenServed keepsMap_commandReseed s
  case pause => exact keepsMap_whenServed keepsMap_commandPause s
  case resync => exact keepsMap_whenServed keepsMap_commandResync s
  case mark => exact keepsMap_whenServed keepsMap_commandMark s
  case linkReset => exact keepsMap_whenServed keepsMap_commandLinkReset s
  case unknownCommand code => exact keepsMap_whenServed (keepsMap_writeCommand code) s
  case controlLinkEnable v => exact keepsMap_whenServed (fun s => keepsMap_respond _ (keepsMap_setEnable v s)) s
  case linkcfg v => exact keepsMap_whenServed (keepsMap_writeLinkcfgRegister v) s
  case region n half v => exact keepsMap_whenServed (keepsMap_writeRegionRegister n half v) s
  case registerWrite index data => exact keepsMap_whenServed (keepsMap_writeTransaction index data) s
  case invalidOpcode opcode index => exact keepsMap_whenServed (keepsMap_clockHead opcode index) s
  case drain => exact keepsMap_whenServed (fun _ => .of_same (by simp)) s
  case clearCounters => exact keepsMap_whenServed (fun _ => .of_same (by rfl)) s
  case softReset => exact keepsMap_whenServed (fun _ => .of_same (by rfl)) s
  case cause v => exact keepsMap_whenServed (fun _ => .of_same (by rfl)) s
  case enable v => exact keepsMap_whenServed (fun _ => .of_same (by rfl)) s
  case controlMerge v => exact keepsMap_whenServed (fun _ => .of_same (by rfl)) s
  case controlArb v => exact keepsMap_whenServed (fun _ => .of_same (by rfl)) s
  case controlPace v => exact keepsMap_whenServed (fun _ => .of_same (by rfl)) s
  case ackcfg v => exact keepsMap_whenServed (fun _ => .of_same (by simp [writeAckcfgRegister])) s
  case keepcfg v => exact keepsMap_whenServed (fun _ => .of_same (by simp [writeKeepcfgRegister])) s
  case pacecfg v => exact keepsMap_whenServed (fun _ => .of_same (by simp [writePacecfgRegister])) s
  case copycfg v => exact keepsMap_whenServed (fun _ => .of_same (by simp [writeCopycfgRegister])) s
  all_goals exact keepsMap_unlessPorst (fun _ => .of_same (by simp)) s

/-- Settles O53: the map's form is kept by each command, and so by the step. -/
theorem stepsKeepDirtyCount : Obligations.StepsKeepDirtyCount := by
  unfold Obligations.StepsKeepDirtyCount
  intro s t h
  unfold step at h
  split at h
  · obtain rfl := Host.Outcome.next.inj h
    exact KeepsMap.of_same (by simp)
  · exact KeepsMap.after (keepsMap_exec _ _ t h) rfl

end Sys2Proof.Machine
end

section
/-! The dirty map's own operations (R28, R32, R35, R37, R39) and clear-all (R40). -/

namespace Sys2Proof.Machine

/-! ### The search of a take-next -/

/-- The first block from the cursor upward stands before every other at or past the cursor; one found behind the cursor
is the lowest of all, with none at or past the cursor (R37). -/
theorem DirtyMap.next_first {m : DirtyMap} {b : Block} (hm : Rising m.blocks) (h : m.next = some b) :
    (∀ c ∈ m.blocks, m.cursor.toNat ≤ c.toNat → m.cursor.toNat ≤ b.toNat ∧ b.toNat ≤ c.toNat) ∧
      (b.toNat < m.cursor.toNat → ∀ c ∈ m.blocks, b.toNat ≤ c.toNat) := by
  have hle : m.blocks.Pairwise fun a c => a.toNat ≤ c.toNat := hm.imp Nat.le_of_lt
  unfold DirtyMap.next at h
  split at h
  · rename_i c hfind
    obtain rfl := Option.some.inj h
    obtain ⟨hcursor, before, after, hblocks, hbefore⟩ := List.find?_eq_some_iff_append.mp hfind
    simp only [decide_eq_true_eq] at hcursor
    refine ⟨fun d hd hpast => ⟨hcursor, ?_⟩, fun hlow => absurd hcursor (by omega)⟩
    rw [hblocks] at hd hle
    obtain ⟨-, htail, -⟩ := List.pairwise_append.mp hle
    rcases List.mem_append.mp hd with hd | hd
    · simpa using absurd hpast (by simpa using hbefore d hd)
    · rcases List.mem_cons.mp hd with rfl | hd
      · exact Nat.le_refl _
      · exact (List.pairwise_cons.mp htail).1 d hd
  · rename_i hfind
    obtain ⟨rest, hblocks⟩ := List.head?_eq_some_iff.mp h
    have hbehind : ∀ c ∈ m.blocks, ¬ m.cursor.toNat ≤ c.toNat := by simpa using hfind
    refine ⟨fun c hc hpast => absurd hpast (hbehind c hc), fun _ c hc => ?_⟩
    rw [hblocks] at hc hle
    rcases List.mem_cons.mp hc with rfl | hc
    · exact Nat.le_refl _
    · exact (List.pairwise_cons.mp hle).1 c hc

/-- The block past another, with 0 past the top of the map (R29). -/
theorem toNat_block_succ (b : Block) : (b + 1).toNat = if b.toNat = 65535 then 0 else b.toNat + 1 := by
  split <;> bv_omega

/-- Settles O17: the bits, the count and the cursor after each operation. -/
theorem dirtyMapMarksSeedsAndTakes : Obligations.DirtyMapMarksSeedsAndTakes := by
  unfold Obligations.DirtyMapMarksSeedsAndTakes
  intro m hm
  refine ⟨fun b => ⟨fun c => m.mem_mark b c, m.mark_count b, m.mark_cursor b⟩,
    fun table => ⟨fun c => (m.mem_seed table c).trans or_comm, m.wf_seed table hm, rfl⟩, m.takeNext_none,
    fun b n htake => ?_⟩
  obtain ⟨hrising, hcount⟩ := m.wf_iff.mp hm
  obtain ⟨hnext, hdirty, hblocks, hn, hcursor⟩ := m.takeNext_some n b htake
  obtain ⟨hupward, hlowest⟩ := DirtyMap.next_first hrising hnext
  have hpos : 0 < m.count := hcount ▸ List.length_pos_of_mem hdirty
  refine ⟨hdirty, hupward, hlowest, fun c => by simp [hblocks], by omega, ?_⟩
  rw [hcursor, toNat_block_succ]

/-! ### Clear-all -/

/-- A field of the origin that is 0 reads 0 in either role (R31). -/
theorem originOnly_zero (s : State) : originOnly s 0 = 0 := ite_self 0

theorem readRegister_dirtyCount (s : State) :
    readRegister 0x07 s = some (originOnly s (BitVec.ofNat 32 s.dirty.count)) := rfl

theorem readRegister_cursor (s : State) : readRegister 0x08 s = some (originOnly s (s.dirty.cursor.setWidth 32)) := rfl

/-- Settles O18: clear-all in the resets and in the part of STOP that stands before the link's. -/
theorem clearAllEmptiesDirtyMap : Obligations.ClearAllEmptiesDirtyMap := by
  unfold Obligations.ClearAllEmptiesDirtyMap
  refine ⟨fun s => ⟨_, rfl, rfl⟩, fun s pins selected hp hpending => ⟨takeSoftReset pins selected s, ?_, ?_⟩,
    fun s hp hready hrole hstate => ?_, fun s hempty => ⟨?_, ?_, ?_⟩⟩
  · simp [exec, execSoftResetTaken, unlessPorst, hp]
  · simp [takeSoftReset, hpending, State.reset, DirtyMap.empty]
  · have hrole' : (selectPort (deselectPort s)).role = .origin := hrole
    obtain ⟨-, hdirty, hcopy, -⟩ := stopOrigin_part hrole'
    refine ⟨_, exec_stop_origin hp hready hrole hstate, hdirty, by simp, ?_⟩
    exact (congrArg CopyEngine.pendingStart hcopy).trans (by simp)
  · rw [hempty]
    rfl
  · rw [readRegister_dirtyCount, hempty]
    exact congrArg some (originOnly_zero s)
  · rw [readRegister_cursor, hempty]
    exact congrArg some (originOnly_zero s)

end Sys2Proof.Machine
end

section
/-! The mark report (R33, R83, R101) and the acknowledge-through report (R102, R113, R115). -/

namespace Sys2Proof.Machine

/-! ### The mark report -/

theorem exec_dirtyMarkReport {s : State} {r : MarkReport} {rest : List MarkReport} (hp : s.porst = false)
    (hmarks : s.reports.marks = r :: rest) :
    exec .dirtyMarkReport s = .next (examineCopy (takeMarkReport r { s with reports.marks := rest })) := by
  simp [exec, execDirtyMarkReport, unlessPorst, dirtyMarkReport, hp, hmarks]

/-- In SYNCED the mark of a clear bit loses the synchronisation (R101). -/
theorem takeMarkReport_synced {r : MarkReport} {s : State} (hs : s.mirror.state = .synced) (hr : r.wasClear = true) :
    takeMarkReport r s = { s with mirror.state := .resyncing, causes := s.raised .syncLost } :=
  if_pos ⟨hs, hr⟩

theorem takeMarkReport_other {r : MarkReport} {s : State} (h : s.mirror.state ≠ .synced ∨ r.wasClear = false) :
    takeMarkReport r s = s :=
  if_neg fun ⟨hs, hr⟩ => h.elim (fun hne => hne hs) fun hset => by simp [hset] at hr

/-! ### One removed MARK -/

/-- A removed MARK's number becomes the last acknowledged mark, with MARK_ACKED (R113). -/
def acknowledgeMark (n : MarkNo) (s : State) : State := raise .markAcked { s with mirror.lastAckedMark := n }

/-- Of two numbers taken one after the other the later one stays (R113). -/
theorem acknowledgeMark_twice (n k : MarkNo) (s : State) :
    acknowledgeMark n (acknowledgeMark k s) = acknowledgeMark n s := by
  simp [acknowledgeMark, raise, BitVec.or_assoc]

/-- A drain completes the same before a later number is taken as after it (R113, R115). -/
theorem acknowledgeMark_completeDrain (n : MarkNo) (d : DrainMark) (s : State) :
    acknowledgeMark n (completeDrain d s) = completeDrain d (acknowledgeMark n s) := by
  simp [acknowledgeMark, completeDrain, raise, BitVec.or_assoc, BitVec.or_comm (1#13 <<< Cause.drainDone.bit)]

/-- A removed MARK that no pending drain waits for (R113). -/
theorem takeRemovedMark_plain {m : RemovedMark} {s : State}
    (h : ∀ d, s.mirror.drain = .appended d → m.drain = false ∨ m.seq ≠ d.seq) :
    takeRemovedMark s m = acknowledgeMark m.number s := by
  unfold takeRemovedMark
  dsimp only
  split
  · rename_i d hd
    refine if_neg fun ⟨hdrain, hseq⟩ => ?_
    rcases h d hd with hno | hother
    · simp [hno] at hdrain
    · exact hother hseq
  · rfl

/-- The MARK that the pending drain waits for (R115). -/
theorem takeRemovedMark_completes {m : RemovedMark} {d : DrainMark} {s : State} (hd : s.mirror.drain = .appended d)
    (hm : m.drain = true ∧ m.seq = d.seq) :
    takeRemovedMark s m = completeDrain d (acknowledgeMark m.number s) := by
  simp [takeRemovedMark, acknowledgeMark, hd, hm]

/-! ### The removed MARKs of a report, oldest first -/

theorem takeRemovedMarks_cons (m : RemovedMark) (ms : List RemovedMark) (s : State) :
    takeRemovedMarks (m :: ms) s = takeRemovedMarks ms (takeRemovedMark s m) := rfl

/-- With none the drain's, the number of the last stays (R113). -/
theorem takeRemovedMarks_plain {ms : List RemovedMark} {last : RemovedMark} {s : State}
    (hlast : ms.getLast? = some last)
    (h : ∀ d, s.mirror.drain = .appended d → ∀ q ∈ ms, q.drain = false ∨ q.seq ≠ d.seq) :
    takeRemovedMarks ms s = acknowledgeMark last.number s := by
  induction ms generalizing s with
  | nil => simp at hlast
  | cons m ms ih =>
    rw [takeRemovedMarks_cons, takeRemovedMark_plain fun d hd => h d hd m List.mem_cons_self]
    cases ms with
    | nil =>
      obtain rfl : m = last := by simpa using hlast
      rfl
    | cons k ks =>
      rw [List.getLast?_cons_cons] at hlast
      rw [ih (s := acknowledgeMark m.number s) hlast fun d hd q hq => h d hd q (List.mem_cons_of_mem m hq),
        acknowledgeMark_twice]

/-- With the drain's among them, the drain completes and the number of the last stays (R113, R115). -/
theorem takeRemovedMarks_completes {ms : List RemovedMark} {last : RemovedMark} {d : DrainMark} {s : State}
    (hlast : ms.getLast? = some last) (hd : s.mirror.drain = .appended d)
    (h : ∃ q ∈ ms, q.drain = true ∧ q.seq = d.seq) :
    takeRemovedMarks ms s = completeDrain d (acknowledgeMark last.number s) := by
  induction ms generalizing s with
  | nil => simp at hlast
  | cons m ms ih =>
    rw [takeRemovedMarks_cons]
    by_cases hm : m.drain = true ∧ m.seq = d.seq
    · rw [takeRemovedMark_completes hd hm]
      cases ms with
      | nil =>
        obtain rfl : m = last := by simpa using hlast
        rfl
      | cons k ks =>
        rw [List.getLast?_cons_cons] at hlast
        rw [takeRemovedMarks_plain hlast (by simp [completeDrain]), acknowledgeMark_completeDrain, acknowledgeMark_twice]
    · have hplain : m.drain = false ∨ m.seq ≠ d.seq := by simpa [imp_iff_not_or] using hm
      have hrest : ∃ q ∈ ms, q.drain = true ∧ q.seq = d.seq := by simpa [hm] using h
      obtain ⟨k, ks, rfl⟩ := List.exists_cons_of_ne_nil (List.ne_nil_of_mem hrest.choose_spec.1)
      rw [List.getLast?_cons_cons] at hlast
      rw [takeRemovedMark_plain (by simpa [hd] using hplain), ih hlast (by simpa [acknowledgeMark] using hd) hrest,
        acknowledgeMark_twice]

/-! ### The report -/

/-- With no mark request pending, the check for SYNCED follows the removed MARKs at once (R102, R113). -/
theorem exec_mirrorAckReport {s : State} {ms : List RemovedMark} {rest : List (List RemovedMark)} (hp : s.porst = false)
    (hpending : s.mirror.pendingMark = none) (hacks : s.reports.mirrorAcks = ms :: rest) :
    exec .mirrorAckReport s = .next (checkSynced (takeRemovedMarks ms { s with reports.mirrorAcks := rest })) := by
  simp [exec, execMirrorAckReport, unlessPorst, mirrorAckReport, appendAndCheck, appendPendingMark, hp, hpending, hacks]

theorem exec_mirrorAckReport_plain {s : State} {ms : List RemovedMark} {last : RemovedMark}
    {rest : List (List RemovedMark)} (hp : s.porst = false) (hpending : s.mirror.pendingMark = none)
    (hacks : s.reports.mirrorAcks = ms :: rest) (hlast : ms.getLast? = some last)
    (h : ∀ d, s.mirror.drain = .appended d → ∀ q ∈ ms, q.drain = false ∨ q.seq ≠ d.seq) :
    exec .mirrorAckReport s = .next (checkSynced { s with
      reports.mirrorAcks := rest, mirror.lastAckedMark := last.number, causes := s.raised .markAcked }) := by
  rw [exec_mirrorAckReport hp hpending hacks, takeRemovedMarks_plain (s := { s with reports.mirrorAcks := rest }) hlast h]
  rfl

theorem exec_mirrorAckReport_completes {s : State} {ms : List RemovedMark} {last : RemovedMark} {d : DrainMark}
    {rest : List (List RemovedMark)} (hp : s.porst = false) (hpending : s.mirror.pendingMark = none)
    (hacks : s.reports.mirrorAcks = ms :: rest) (hlast : ms.getLast? = some last)
    (hd : s.mirror.drain = .appended d) (h : ∃ q ∈ ms, q.drain = true ∧ q.seq = d.seq) :
    exec .mirrorAckReport s = .next (checkSynced { s with
      reports.mirrorAcks := rest
      mirror := { s.mirror with
        lastAckedMark := last.number, drained := true, drainConsistent := d.consistent, drain := .clear }
      causes := s.raised .markAcked ||| (1#13 <<< Cause.drainDone.bit) }) := by
  rw [exec_mirrorAckReport hp hpending hacks,
    takeRemovedMarks_completes (s := { s with reports.mirrorAcks := rest }) hlast hd h]
  rfl

/-! ### The check for SYNCED -/

theorem isBlock_eq_false_iff (e : Entry) : e.isBlock = false ↔ ∀ n i st, e.body ≠ .block n i st := by
  obtain ⟨q, o, body⟩ := e
  cases body <;> simp [Entry.isBlock]

/-- The conditions of R102. -/
theorem readyForSynced_iff (s : State) : s.readyForSynced = true ↔
    s.mirror.state = .resyncing ∧ s.dirty.count = 0 ∧ ∀ e ∈ s.journal.entries, ∀ n i st, e.body ≠ .block n i st := by
  simp [State.readyForSynced, ← isBlock_eq_false_iff, and_assoc]

/-- Settles O49: the mark report's two outcomes, the MARKs of an acknowledge-through report, the check. -/
theorem markAndAckReportsMoveTheMirrorState : Obligations.MarkAndAckReportsMoveTheMirrorState := by
  unfold Obligations.MarkAndAckReportsMoveTheMirrorState
  refine ⟨fun r rest s hp hmarks => ⟨fun hs hr => ?_, fun h => ?_⟩,
    fun rest s hp hpending => ⟨exec_mirrorAckReport hp hpending, fun m hacks =>
      ⟨fun d hd hdrain hseq => ?_, fun h => ?_⟩⟩,
    fun m ms rest s hp hpending hacks last hlast => ⟨fun d hd h => ?_, fun h => ?_⟩, fun s => ?_⟩
  · rw [exec_dirtyMarkReport hp hmarks, takeMarkReport_synced (s := { s with reports.marks := rest }) hs hr]
    rfl
  · rw [exec_dirtyMarkReport hp hmarks, takeMarkReport_other (s := { s with reports.marks := rest }) h]
  · exact exec_mirrorAckReport_completes hp hpending hacks rfl hd ⟨m, List.mem_singleton_self m, hdrain, hseq⟩
  · exact exec_mirrorAckReport_plain hp hpending hacks rfl (by simpa using h)
  · exact exec_mirrorAckReport_completes hp hpending hacks hlast hd h
  · exact exec_mirrorAckReport_plain hp hpending hacks hlast h
  · rw [← readyForSynced_iff]
    exact ⟨fun hready => if_pos hready, fun hnot => if_neg hnot⟩

end Sys2Proof.Machine
end

section
/-! The memory port and the system port agree (R42, R65, R68, R69) and a fencing replica lets no mirrored write wait
for memory (R59, R60): what each command does to the two ports, by one relation that composes. -/

namespace Sys2Proof.Machine

/-! ### What the ports hold between them -/

/-- What the system port's phase says is under way at the memory port: its transaction in AT_MEMORY, else none. -/
def SystemPhase.carried : SystemPhase → Option MemTransaction
  | .atMemory t => some (memTransactionOf t)
  | _ => none

/-- The memory port's own form: FREE has no request waiting (R69), and the engine's request is not the system port's
(R68). -/
structure MemoryPort.Wf (p : MemoryPort) : Prop where
  free : p.phase = .free → p.systemRequest = none ∧ p.engineRequest = none
  engine : ∀ q, p.engineRequest = some q → q.owner ≠ .system

/-- The ports agree when what the system port has under way waits at the memory port or is at memory, not both. -/
theorem portsOk_iff (s : State) : s.portsOk = true ↔ s.mem.Wf ∧
    ((s.mem.systemRequest = s.sys.phase.carried ∧ s.mem.systemAtMemory = none) ∨
      (s.mem.systemRequest = none ∧ s.mem.systemAtMemory = s.sys.phase.carried)) := by
  have hwf : s.mem.Wf ↔ ((s.mem.phase != .free || (s.mem.systemRequest.isNone && s.mem.engineRequest.isNone)) &&
      s.mem.engineRequest.all (fun q => q.owner != .system)) = true := by
    constructor
    · rintro ⟨hfree, hengine⟩
      simpa [imp_iff_not_or, Option.all_eq_true] using And.intro hfree hengine
    · intro h
      simp only [Bool.and_eq_true, Bool.or_eq_true, bne_iff_ne, Option.isNone_iff_eq_none, Option.all_eq_true] at h
      exact ⟨fun hf => h.1.resolve_left (not_not_intro hf), h.2⟩
  unfold State.portsOk
  rw [Bool.and_eq_true, ← hwf]
  refine and_congr_right fun _ => ?_
  cases s.sys.phase <;> simp [SystemPhase.carried]

theorem fenceOk_iff (s : State) : s.fenceOk = true ↔ (s.fencing = true → ∀ m, s.mem.systemRequest = some m →
    m.kind.isWrite = true → s.mirrored m.address = false) := by
  unfold State.fenceOk
  cases s.fencing with
  | false => simp
  | true => cases s.mem.systemRequest with
    | none => simp
    | some m => cases hw : m.kind.isWrite <;> simp [hw]

theorem fencing_iff (s : State) : s.fencing = true ↔
    s.role = .replica ∧ (s.mirror.replica = .listening ∨ s.mirror.replica = .applying) := by
  simp [State.fencing]

theorem carried_eq_none {p : SystemPhase} (h : ∀ t, p ≠ .atMemory t) : p.carried = none := by
  cases p with
  | atMemory t => exact absurd rfl (h t)
  | idle => rfl
  | held t => rfl
  | complete t code data => rfl

@[simp] theorem memTransactionOf_kind (t : Transaction) : (memTransactionOf t).kind = t.kind := by
  unfold memTransactionOf
  cases h : t.kind <;> rfl

@[simp] theorem memTransactionOf_address (t : Transaction) : (memTransactionOf t).address = t.address := by
  unfold memTransactionOf
  cases t.kind <;> rfl

@[simp] theorem memTransactionOf_owner (t : Transaction) : (memTransactionOf t).owner = .system := by
  unfold memTransactionOf
  cases t.kind <;> rfl

/-! ### Operations that leave the system port's side of the memory port alone -/

/-- What the engine requester's operations keep of the memory port: the system port's request and transaction, and
the port's form. -/
structure MemoryPort.KeepsSystemSide (p q : MemoryPort) : Prop where
  request : q.systemRequest = p.systemRequest
  atMemory : q.systemAtMemory = p.systemAtMemory
  wf : p.Wf → q.Wf

namespace MemoryPort

theorem KeepsSystemSide.refl (p : MemoryPort) : p.KeepsSystemSide p := ⟨rfl, rfl, id⟩

theorem KeepsSystemSide.of_eq {p q : MemoryPort} (h : q = p) : p.KeepsSystemSide q := h ▸ .refl p

theorem systemAtMemory_eq_some (p : MemoryPort) (t : MemTransaction) :
    p.systemAtMemory = some t ↔ p.phase = .busy t .passed ∧ t.owner = .system := by
  unfold systemAtMemory
  split
  · rename_i u hphase
    rw [hphase]
    split
    · rename_i howner
      simp only [Option.some.injEq, MemoryPhase.busy.injEq, and_true]
      exact ⟨fun h => ⟨h, h ▸ howner⟩, fun h => h.1⟩
    · rename_i howner
      simp only [reduceCtorEq, MemoryPhase.busy.injEq, and_true, false_iff, not_and]
      exact fun h => h ▸ howner
  · rename_i hphase
    simp only [reduceCtorEq, false_iff, not_and]
    exact fun h => absurd h (hphase t)

theorem systemAtMemory_eq_none {p : MemoryPort} (h : ∀ t, p.phase = .busy t .passed → t.owner ≠ .system) :
    p.systemAtMemory = none := by
  rw [Option.eq_none_iff_forall_ne_some]
  intro t ht
  obtain ⟨hphase, howner⟩ := (systemAtMemory_eq_some p t).mp ht
  exact h t hphase howner

/-- A transaction of the engine, or one whose answer is not passed on, is not the system port's to wait for. -/
theorem systemAtMemory_busy {p : MemoryPort} {t : MemTransaction} {fate : AnswerFate} (hbusy : p.phase = .busy t fate)
    (h : t.owner ≠ .system ∨ fate ≠ .passed) : p.systemAtMemory = none := by
  refine systemAtMemory_eq_none fun u hu => ?_
  obtain ⟨rfl, rfl⟩ := MemoryPhase.busy.inj (hbusy.symm.trans hu)
  exact h.resolve_right (not_not_intro rfl)

theorem keepsSystemSide_withdrawEngine (p : MemoryPort) : p.KeepsSystemSide p.withdrawEngine :=
  ⟨rfl, rfl, fun h => ⟨fun hf => ⟨(h.free hf).1, rfl⟩, fun _ hq => nomatch hq⟩⟩

theorem keepsSystemSide_requestEngine {q : MemTransaction} (p : MemoryPort) (hq : q.owner ≠ .system) :
    p.KeepsSystemSide (p.requestEngine q) := by
  unfold requestEngine
  split
  · rename_i hfree
    refine ⟨rfl, ?_, fun h => ⟨fun hf => (nomatch hf), fun r hr => ?_⟩⟩
    · rw [systemAtMemory_eq_none (p := p) (by simp [hfree])]
      exact systemAtMemory_eq_none fun t ht => by
        cases ht
        exact hq
    · cases (h.free hfree).2.symm.trans hr
  · rename_i hfree
    exact ⟨rfl, rfl, fun _ => ⟨fun hf => absurd hf hfree, fun r hr => by cases hr; exact hq⟩⟩

/-- The answer of any transaction but the system port's own (R73, R74, R76). -/
theorem keepsSystemSide_answered {p : MemoryPort} (h : p.systemAtMemory = none) : p.KeepsSystemSide p.answered :=
  ⟨rfl, h.symm ▸ rfl, fun hw => ⟨fun hf => (nomatch hf), hw.engine⟩⟩

theorem keepsSystemSide_softReset (p : MemoryPort) : p.KeepsSystemSide p.softReset := by
  have hphase : ∀ t, p.softReset.phase = .busy t .passed ∧ t.owner = .system ↔
      p.phase = .busy t .passed ∧ t.owner = .system := by
    intro t
    unfold softReset
    cases p.phase with
    | free => simp
    | recovery => simp
    | busy u fate =>
      by_cases hu : u.owner = .system
      · simp [hu]
      · simp only [hu, if_false, MemoryPhase.busy.injEq, reduceCtorEq, and_false, false_and, false_iff]
        rintro ⟨⟨rfl, -⟩, howner⟩
        exact hu howner
  refine ⟨rfl, Option.ext fun t => ?_, fun h => ⟨fun hf => ⟨(h.free ?_).1, rfl⟩, fun _ hq => nomatch hq⟩⟩
  · rw [systemAtMemory_eq_some, systemAtMemory_eq_some, hphase]
  · unfold softReset at hf
    revert hf
    cases p.phase with
    | free => simp
    | recovery => simp
    | busy u fate => by_cases hu : u.owner = .system <;> simp [hu]

/-- An abandoned transaction's answer is no longer the system port's (R62, R76). -/
theorem systemAtMemory_abandonSystem (p : MemoryPort) : p.abandonSystem.systemAtMemory = none := by
  refine systemAtMemory_eq_none fun t => ?_
  unfold abandonSystem
  split
  · split
    · simp
    · rename_i u hphase howner
      rw [hphase]
      rintro ⟨rfl, -⟩
      exact howner
  · rename_i hphase
    exact fun h => absurd h (hphase t)

theorem wf_abandonSystem {p : MemoryPort} (h : p.Wf) : p.abandonSystem.Wf := by
  unfold abandonSystem
  split
  · split
    · exact ⟨fun hf => (nomatch hf), h.engine⟩
    · exact h
  · exact h

theorem wf_withdrawSystem {p : MemoryPort} (h : p.Wf) : p.withdrawSystem.Wf :=
  ⟨fun hf => ⟨rfl, (h.free hf).2⟩, h.engine⟩

theorem wf_answered {p : MemoryPort} (h : p.Wf) : p.answered.Wf := ⟨fun hf => (nomatch hf), h.engine⟩

end MemoryPort

end Sys2Proof.Machine
end

section
/-! What the commands do to the two ports: the relation between a state and the state after, and the commands that grant
the system port's request or bring it to the memory port (R42, R59, R69). -/

namespace Sys2Proof.Machine

/-- What an operation that grants the system port nothing keeps, from `s` to `t`: the agreement of the ports, a
fencing replica's fence, and that no other system transaction comes to memory. -/
structure KeepsPorts (s t : State) : Prop where
  ports : s.portsOk = true → t.portsOk = true
  fence : s.portsOk = true → s.fenceOk = true → t.fenceOk = true
  atMemory : ∀ m, t.mem.systemAtMemory = some m → s.mem.systemAtMemory = some m

/-- An operation on other parts of the state, which neither port shows. -/
@[simp] abbrev SamePorts (s t : State) : Prop :=
  t.sys = s.sys ∧ t.mem = s.mem ∧ t.role = s.role ∧ t.mirror.replica = s.mirror.replica ∧ t.regions = s.regions

namespace KeepsPorts

theorem trans {s t u : State} (h1 : KeepsPorts s t) (h2 : KeepsPorts t u) : KeepsPorts s u :=
  ⟨fun hp => h2.ports (h1.ports hp), fun hp hf => h2.fence (h1.ports hp) (h1.fence hp hf),
    fun m hm => h1.atMemory m (h2.atMemory m hm)⟩

/-- An operation that leaves the system port's transaction and its side of the memory port as they are. -/
theorem of_systemSide {s t : State} (hcarried : t.sys.phase.carried = s.sys.phase.carried)
    (hmem : s.mem.KeepsSystemSide t.mem) (hfence : s.portsOk = true → s.fenceOk = true → t.fenceOk = true) :
    KeepsPorts s t := by
  refine ⟨fun hp => ?_, hfence, fun m hm => hmem.atMemory ▸ hm⟩
  obtain ⟨hwf, hagree⟩ := (portsOk_iff s).mp hp
  rw [portsOk_iff, hcarried, hmem.request, hmem.atMemory]
  exact ⟨hmem.wf hwf, hagree⟩

/-- An operation that moves neither the fence nor the table. -/
theorem of_engine {s t : State} (hcarried : t.sys.phase.carried = s.sys.phase.carried)
    (hmem : s.mem.KeepsSystemSide t.mem) (hfencing : t.fencing = s.fencing) (hregions : t.regions = s.regions) :
    KeepsPorts s t := by
  refine of_systemSide hcarried hmem fun _ hf => ?_
  have hmirrored : ∀ a, t.mirrored a = s.mirrored a := fun a => by rw [State.mirrored, hregions, State.mirrored]
  rw [fenceOk_iff] at hf ⊢
  simpa only [hfencing, hmem.request, hmirrored] using hf

theorem of_same {s t : State} (h : SamePorts s t) : KeepsPorts s t := by
  obtain ⟨hsys, hmem, hrole, hreplica, hregions⟩ := h
  exact of_engine (by rw [hsys]) (.of_eq hmem) (by rw [State.fencing, State.fencing, hrole, hreplica]) hregions

theorem refl (s : State) : KeepsPorts s s := of_same ⟨rfl, rfl, rfl, rfl, rfl⟩

/-- An operation behind one on other parts of the state. -/
theorem after {s t u : State} (h : KeepsPorts t u) (hst : SamePorts s t) : KeepsPorts s u :=
  (of_same hst).trans h

/-- An operation followed by one on other parts of the state. -/
theorem andThen {s t u : State} (h : KeepsPorts s t) (htu : SamePorts t u) : KeepsPorts s u :=
  h.trans (of_same htu)

/-- An operation after which a replica does not fence. -/
theorem of_unfenced {s t : State} (hcarried : t.sys.phase.carried = s.sys.phase.carried)
    (hmem : s.mem.KeepsSystemSide t.mem) (hfencing : t.fencing = false) : KeepsPorts s t :=
  of_systemSide hcarried hmem fun _ _ => (fenceOk_iff t).mpr fun h => absurd (hfencing.symm.trans h) (by decide)

/-- An operation after which the system port has nothing under way. -/
theorem of_settled {s t : State} (hcarried : t.sys.phase.carried = none) (hatMemory : t.mem.systemAtMemory = none)
    (hrequest : s.portsOk = true → t.mem.systemRequest = none) (hwf : s.mem.Wf → t.mem.Wf) : KeepsPorts s t where
  ports hp := (portsOk_iff t).mpr ⟨hwf ((portsOk_iff s).mp hp).1, .inr ⟨hrequest hp, hatMemory.trans hcarried.symm⟩⟩
  fence hp _ := (fenceOk_iff t).mpr fun _ _ hm => nomatch (hrequest hp).symm.trans hm
  atMemory _ hm := nomatch hatMemory.symm.trans hm

end KeepsPorts

/-- A transaction at memory is not waiting as well. -/
theorem systemRequest_of_atMemory {s : State} {m : MemTransaction} (hp : s.portsOk = true)
    (hm : s.mem.systemAtMemory = some m) : s.mem.systemRequest = none ∧ s.sys.phase.carried = some m := by
  obtain ⟨-, ⟨-, hat⟩ | ⟨hreq, hat⟩⟩ := (portsOk_iff s).mp hp
  · cases hat.symm.trans hm
  · exact ⟨hreq, hat.symm.trans hm⟩

/-- A request that waits is the system port's own transaction, not yet at memory. -/
theorem carried_of_systemRequest {s : State} {m : MemTransaction} (hp : s.portsOk = true)
    (hm : s.mem.systemRequest = some m) : s.sys.phase.carried = some m ∧ s.mem.systemAtMemory = none := by
  obtain ⟨-, ⟨hreq, hat⟩ | ⟨hreq, -⟩⟩ := (portsOk_iff s).mp hp
  · exact ⟨hreq.symm.trans hm, hat⟩
  · cases hreq.symm.trans hm

/-- A system port with nothing under way has no request waiting. -/
theorem systemRequest_of_carried {s : State} (hp : s.portsOk = true) (hc : s.sys.phase.carried = none) :
    s.mem.systemRequest = none ∧ s.mem.systemAtMemory = none := by
  obtain ⟨-, ⟨hreq, hat⟩ | ⟨hreq, hat⟩⟩ := (portsOk_iff s).mp hp
  · exact ⟨hreq.trans hc, hat⟩
  · exact ⟨hreq, hat.trans hc⟩

/-- The withdrawal of the system port's waiting request leaves it nothing under way (R75). -/
theorem KeepsPorts.of_withdrawn {s t : State} (hwaits : s.mem.systemRequest.isSome = true)
    (hcarried : t.sys.phase.carried = none) (hmem : t.mem = s.mem.withdrawSystem) : KeepsPorts s t := by
  obtain ⟨m, hm⟩ := Option.isSome_iff_exists.mp hwaits
  have hrequest : t.mem.systemRequest = none := by rw [hmem]; rfl
  have hatMemory : t.mem.systemAtMemory = s.mem.systemAtMemory := by rw [hmem]; rfl
  refine ⟨fun hp => ?_, fun _ _ => (fenceOk_iff t).mpr fun _ _ hq => (nomatch hrequest.symm.trans hq),
    fun _ hq => hatMemory ▸ hq⟩
  rw [portsOk_iff, hrequest, hcarried, hatMemory, hmem]
  exact ⟨MemoryPort.wf_withdrawSystem ((portsOk_iff s).mp hp).1, .inl ⟨rfl, (carried_of_systemRequest hp hm).2⟩⟩

/-- What a command does to the ports when it may grant the system port's request too: the agreement and the fence as
before, and what comes to memory past a fence was not mirrored. -/
structure PortsStep (s t : State) : Prop where
  ports : s.portsOk = true → t.portsOk = true
  fence : s.portsOk = true → s.statesOk = true → s.fenceOk = true → t.fenceOk = true
  grant : s.portsOk = true → s.fenceOk = true → s.fencing = true → ∀ m, t.mem.systemAtMemory = some m →
    s.mem.systemAtMemory ≠ some m → m.kind.isWrite = true → t.mirrored m.address = false

theorem KeepsPorts.portsStep {s t : State} (h : KeepsPorts s t) : PortsStep s t where
  ports := h.ports
  fence hp _ hf := h.fence hp hf
  grant _ _ _ m hm hne := absurd (h.atMemory m hm) hne

theorem keepsPorts_unlessPorst {f : State → State} (h : ∀ s, KeepsPorts s (f s)) (s : State) :
    KeepsPorts s (unlessPorst f s) := by
  unfold unlessPorst
  split
  · exact .refl s
  · exact h s

/-! ### The system port's own commands -/

theorem portsOk_requestSystem {s : State} {t : Transaction} (hp : s.portsOk = true) (hc : s.sys.phase.carried = none) :
    (toMemory t s).portsOk = true := by
  obtain ⟨hreq, hat⟩ := systemRequest_of_carried hp hc
  obtain ⟨hwf, -⟩ := (portsOk_iff s).mp hp
  rw [portsOk_iff, toMemory_mem, toMemory_sys]
  unfold MemoryPort.requestSystem
  split
  · refine ⟨⟨fun hf => (nomatch hf), hwf.engine⟩, .inr ⟨hreq, ?_⟩⟩
    exact (MemoryPort.systemAtMemory_eq_some _ _).mpr ⟨rfl, memTransactionOf_owner t⟩
  · rename_i hbusy
    exact ⟨⟨fun hf => absurd hf hbusy, hwf.engine⟩, .inl ⟨rfl, hat⟩⟩

/-- What a request brings to wait or to memory is the transaction requested. -/
theorem requestSystem_new (q : MemTransaction) (p : MemoryPort) (m : MemTransaction) :
    ((p.requestSystem q).systemRequest = some m → m = q ∨ p.systemRequest = some m) ∧
    ((p.requestSystem q).systemAtMemory = some m → m = q ∨ p.systemAtMemory = some m) := by
  unfold MemoryPort.requestSystem
  split
  · refine ⟨.inr, fun h => .inl ?_⟩
    cases ((MemoryPort.systemAtMemory_eq_some _ _).mp h).1
    rfl
  · exact ⟨fun h => .inl (Option.some.inj h).symm, .inr⟩

/-- A write that a fencing replica lets through to memory is not mirrored (R48, R59). -/
theorem issuedRecord_unfenced {r : MasterRequest} {s : State} (hf : s.fencing = true)
    (h : ¬(s.fencing && (issuedRecord r s).lookup == some true) = true)
    (hw : (issuedRecord r s).kind.isWrite = true) : s.mirrored (issuedRecord r s).address = false := by
  have hrole := ((fencing_iff s).mp hf).1
  revert h hw
  unfold issuedRecord
  by_cases hk : (recordOf r).kind.isWrite = true <;> simp [hf, hrole, hk]

theorem portsStep_masterTransaction (r : MasterRequest) (s : State) : PortsStep s (masterTransaction r s) := by
  unfold masterTransaction
  split
  · exact (KeepsPorts.refl s).portsStep
  · split
    · rename_i hidle
      have hcarried : s.sys.phase.carried = none := by rw [hidle]; rfl
      dsimp only
      split
      · refine KeepsPorts.portsStep (.of_engine ?_ (.of_eq (by simp)) ?_ (by simp))
        · rw [hcarried]; rfl
        · simp [State.fencing]
      · rename_i hthrough
        have hnew := requestSystem_new (memTransactionOf (issuedRecord r s)) s.mem
        have hfencing : (toMemory (issuedRecord r s) s).fencing = s.fencing := by simp [State.fencing]
        have hissued : s.fencing = true → ∀ m, m = memTransactionOf (issuedRecord r s) → m.kind.isWrite = true →
            s.mirrored m.address = false := by
          intro hf m hm hw
          rw [hm, memTransactionOf_kind] at hw
          rw [hm, memTransactionOf_address]
          exact issuedRecord_unfenced hf hthrough hw
        refine ⟨fun hp => portsOk_requestSystem hp hcarried, fun hp _ hok => (fenceOk_iff _).mpr fun hf m hm hw => ?_,
          fun _ _ hf m hm hne hw => ?_⟩
        · rw [hfencing] at hf
          rw [toMemory_mem] at hm
          exact ((hnew m).1 hm).elim (hissued hf m · hw) ((fenceOk_iff s).mp hok hf m · hw)
        · rw [toMemory_mem] at hm
          exact ((hnew m).2 hm).elim (hissued hf m · hw) (absurd · hne)
    · exact (KeepsPorts.refl s).portsStep

/-- Memory's ready indication grants a request that waits, or frees a port at which none waits (R69). -/
theorem ready_cases (policy : ArbPolicy) (p : MemoryPort) :
    p.ready policy = p ∨ (p.systemAtMemory = none ∧
      ((p.systemRequest = none ∧ p.engineRequest = none ∧ p.ready policy = { p with phase := .free }) ∨
       (∃ m, p.systemRequest = some m ∧ p.ready policy = { p with systemRequest := none }.grant .system m) ∨
       (∃ q, p.engineRequest = some q ∧ p.ready policy = { p with engineRequest := none }.grant .engine q))) := by
  unfold MemoryPort.ready
  split
  · rename_i hrecovery
    refine .inr ⟨MemoryPort.systemAtMemory_eq_none (by simp [hrecovery]), ?_⟩
    unfold MemoryPort.arbitrate
    split
    · exact .inl ⟨‹_›, ‹_›, rfl⟩
    · exact .inr (.inl ⟨_, ‹_›, rfl⟩)
    · exact .inr (.inr ⟨_, ‹_›, rfl⟩)
    · split
      · exact .inr (.inl ⟨_, ‹_›, rfl⟩)
      · exact .inr (.inr ⟨_, ‹_›, rfl⟩)
  · exact .inl rfl

theorem portsStep_memoryReady (s : State) : PortsStep s { s with mem := s.mem.ready s.control.arb } := by
  obtain hsame | ⟨hat, ⟨hsys, heng, heq⟩ | ⟨m, hm, heq⟩ | ⟨q, hq, heq⟩⟩ := ready_cases s.control.arb s.mem
  · exact KeepsPorts.portsStep (.of_same ⟨rfl, hsame, rfl, rfl, rfl⟩)
  · refine KeepsPorts.portsStep (.of_engine rfl ⟨?_, ?_, fun _ => ?_⟩ rfl rfl)
    · rw [heq]
    · rw [heq, hat]; rfl
    · rw [heq]
      exact ⟨fun _ => ⟨hsys, heng⟩, fun q hq => nomatch heng.symm.trans hq⟩
  · have hgranted : ∀ k, (s.mem.ready s.control.arb).systemAtMemory = some k → k = m := by
      intro k hk
      rw [heq, MemoryPort.systemAtMemory_eq_some] at hk
      cases hk.1
      rfl
    refine ⟨fun hp => ?_, fun hp _ hok => ?_, fun hp hok hf k hk _ hw => ?_⟩
    · obtain ⟨hcarried, -⟩ := carried_of_systemRequest hp hm
      obtain ⟨w, hw, rfl⟩ : ∃ w, s.sys.phase = .atMemory w ∧ memTransactionOf w = m := by
        cases hphase : s.sys.phase <;> simp_all [SystemPhase.carried]
      rw [portsOk_iff, heq]
      refine ⟨⟨fun hf => (nomatch hf), ((portsOk_iff s).mp hp).1.engine⟩, .inr ⟨rfl, ?_⟩⟩
      rw [hcarried]
      exact (MemoryPort.systemAtMemory_eq_some _ _).mpr ⟨rfl, memTransactionOf_owner w⟩
    · refine (fenceOk_iff _).mpr fun _ k hk => ?_
      rw [heq] at hk
      exact nomatch hk
    · exact (fenceOk_iff s).mp hok hf k (hgranted k hk ▸ hm) hw
  · by_cases howner : q.owner = .system
    · refine ⟨fun hp => ?_, fun hp => ?_, fun hp => ?_⟩ <;>
        exact absurd howner (((portsOk_iff s).mp hp).1.engine q hq)
    · refine KeepsPorts.portsStep (.of_engine rfl ⟨?_, ?_, fun _ => ?_⟩ rfl rfl)
      · rw [heq]; rfl
      · rw [hat, heq]
        exact MemoryPort.systemAtMemory_eq_none fun t ht => by cases ht; exact howner
      · rw [heq]
        exact ⟨fun hf => (nomatch hf), fun r hr => nomatch hr⟩

end Sys2Proof.Machine
end

section
/-! Answers, held writes, SRST, the engine's requests and the link's moves at the two ports (R42, R60, R62, R69,
R76). -/

namespace Sys2Proof.Machine

/-! ### Answers to the system port -/

/-- The capture point gives the master a completion or holds the write (R50). -/
theorem capture_carried (t : Transaction) (s : State) : (capture t s).sys.phase.carried = none := by
  have hmark : (markWrite t s).sys.phase.carried = none := rfl
  unfold capture
  split
  · exact hmark
  · split
    · rfl
    · split
      · split <;> rfl
      · split
        · exact hmark
        · rfl

/-- The answer of its transaction takes the system port out of AT_MEMORY (R42). -/
theorem systemAnswer_carried (t : Transaction) (answer : MemAnswer) (data : Line) (s : State) :
    (systemAnswer t answer data s).sys.phase.carried = none := by
  unfold systemAnswer
  cases answer with
  | error => rfl
  | ok =>
    dsimp only
    split
    · split
      · unfold originWriteOk
        dsimp only
        split
        · exact capture_carried _ s
        · rfl
      · rfl
    · rfl

theorem keepsPorts_settleAbandoned (m : MemTransaction) (answer : MemAnswer) (s : State) :
    KeepsPorts s (settleAbandoned m answer s) := by
  unfold settleAbandoned
  split <;> exact .of_same (by simp)

/-- The answer of a transaction that is not the system port's to take. -/
theorem keepsPorts_answered {s : State} (h : s.mem.systemAtMemory = none) :
    KeepsPorts s { s with mem := s.mem.answered } :=
  .of_engine rfl (MemoryPort.keepsSystemSide_answered h) rfl rfl

theorem keepsPorts_systemMemoryAnswer (answer : MemAnswer) (data : Line) (s : State) :
    KeepsPorts s (systemMemoryAnswer answer data s) := by
  unfold systemMemoryAnswer
  split
  · rename_i m fate hbusy
    split
    · rename_i howner
      have hat : s.mem.systemAtMemory = some m := (MemoryPort.systemAtMemory_eq_some _ _).mpr ⟨hbusy, howner⟩
      split
      · refine .of_settled (systemAnswer_carried _ _ _ _) ?_ (fun hp => ?_) (fun hw => ?_)
        · simp [MemoryPort.answered, MemoryPort.systemAtMemory]
        · simpa [MemoryPort.answered] using (systemRequest_of_atMemory hp hat).1
        · simpa using MemoryPort.wf_answered hw
      · rename_i hphase
        exact .of_settled (carried_eq_none hphase) rfl (fun hp => (systemRequest_of_atMemory hp hat).1)
          MemoryPort.wf_answered
    · exact .trans (keepsPorts_answered (MemoryPort.systemAtMemory_busy hbusy (.inr (by simp))))
        (keepsPorts_settleAbandoned m answer _)
    · exact keepsPorts_answered (MemoryPort.systemAtMemory_busy hbusy (.inr (by simp)))
    · exact .refl s
  · exact .refl s

/-! ### Completions, held writes and SRST -/

/-- Whatever ends a hold, the system port has nothing under way before or after. -/
theorem keepsPorts_ofHeld {s t : State} {w : Transaction} (hheld : s.sys.phase = .held w)
    (hcarried : t.sys.phase.carried = none) (h : t.mem = s.mem ∧ t.role = s.role ∧
      t.mirror.replica = s.mirror.replica ∧ t.regions = s.regions) : KeepsPorts s t := by
  obtain ⟨hmem, hrole, hreplica, hregions⟩ := h
  exact .of_engine (by rw [hheld]; exact hcarried) (.of_eq hmem) (by rw [State.fencing, State.fencing, hrole, hreplica])
    hregions

theorem keepsPorts_completionTaken (s : State) : KeepsPorts s (completionTaken s) := by
  unfold completionTaken
  split
  · rename_i hphase
    exact .of_engine (by rw [hphase]; rfl) (.refl _) rfl rfl
  · exact .refl s

theorem keepsPorts_stallExpiry (s : State) : KeepsPorts s (stallExpiry s) := by
  unfold stallExpiry
  split
  · rename_i hheld
    split
    · exact keepsPorts_ofHeld hheld rfl (by simp)
    · exact .refl s
  · exact .refl s

theorem keepsPorts_heldWriteAckReport (s : State) : KeepsPorts s (heldWriteAckReport s) := by
  unfold heldWriteAckReport
  split
  · exact .refl s
  · dsimp only
    split
    · rename_i hheld
      split
      · exact keepsPorts_ofHeld hheld rfl (by simp)
      · exact .of_same (by simp)
    · exact .of_same (by simp)

/-- SRST leaves the system port with nothing under way at the memory port (R62, R76). -/
theorem keepsPorts_srstAssert (s : State) : KeepsPorts s (srstAssert s) := by
  unfold srstAssert settleSrst
  split
  · exact .refl s
  · have hsettled : ∀ t : State, s.sys.phase.carried = none → t.mem = s.mem → t.sys.phase = .idle →
        t.fencing = s.fencing → t.regions = s.regions → KeepsPorts s t := fun t hnone hmem hidle =>
      .of_engine (by rw [hnone, hidle]; rfl) (.of_eq hmem)
    split
    · rename_i hphase
      exact hsettled _ (by rw [hphase]; rfl) rfl rfl rfl rfl
    · split
      · rename_i hwaits
        exact .of_withdrawn hwaits rfl rfl
      · rename_i hnone
        have hnone' : s.mem.systemRequest = none := by simpa using hnone
        refine .of_settled rfl (MemoryPort.systemAtMemory_abandonSystem _) (fun _ => ?_) MemoryPort.wf_abandonSystem
        rw [← hnone']
        show s.mem.abandonSystem.systemRequest = _
        unfold MemoryPort.abandonSystem
        (repeat' split) <;> rfl
    · rename_i hphase
      exact hsettled _ (by rw [hphase]; rfl) rfl rfl rfl rfl
    · rename_i hphase
      exact hsettled _ (by rw [hphase]; rfl) rfl rfl rfl rfl

/-! ### The engine's requests -/

theorem keepsPorts_presentRead (s : State) : KeepsPorts s (presentRead s) := by
  unfold presentRead
  split
  · exact .of_engine rfl (MemoryPort.keepsSystemSide_requestEngine _ (by simp [copyRead])) rfl rfl
  · exact .refl s

theorem keepsPorts_startTaken (b : Block) (s : State) : KeepsPorts s (startTaken b s) := by
  unfold startTaken
  split
  · split
    · exact KeepsPorts.after (keepsPorts_presentRead _) (by simp)
    · exact .of_same (by simp)
  · exact .of_same (by simp)

theorem keepsPorts_takeCopyStart (s : State) : KeepsPorts s (takeCopyStart s) := by
  unfold takeCopyStart
  split
  · dsimp only
    split
    · exact .of_same (by simp)
    · rename_i b m _
      have htaken : KeepsPorts s { s with copy.pendingStart := false, dirty := m } := .of_same (by simp)
      exact (htaken.trans (keepsPorts_startTaken b _)).andThen (by simp)
  · exact .refl s

theorem keepsPorts_copyAnswer (id : ReadId) (answer : MemAnswer) (data : Line) (s : State) :
    KeepsPorts s (copyAnswer id answer data s) := by
  unfold copyAnswer
  dsimp only
  split <;> exact KeepsPorts.after (keepsPorts_presentRead _) (by simp)

theorem keepsPorts_lineReadAnswer (answer : MemAnswer) (data : Line) (s : State) :
    KeepsPorts s (lineReadAnswer answer data s) := by
  unfold lineReadAnswer
  split
  · rename_i t fate hbusy
    split
    · rename_i howner
      have hanswered : KeepsPorts s { s with mem := s.mem.answered } :=
        keepsPorts_answered (MemoryPort.systemAtMemory_busy hbusy (.inl (by simp [howner])))
      dsimp only
      split
      · exact hanswered.trans (keepsPorts_copyAnswer _ _ _ _)
      · exact hanswered
    · exact .refl s
  · exact .refl s

theorem keepsPorts_presentBlockLine (seq : Seq) (number : Block) (lines : Vector Line 64) (i : Fin 64) (s : State) :
    KeepsPorts s (presentBlockLine seq number lines i s) :=
  .of_engine rfl (MemoryPort.keepsSystemSide_requestEngine _ (by simp)) rfl rfl

theorem keepsPorts_applyFrame (f : Frame) (s : State) : KeepsPorts s (applyFrame f s) := by
  unfold applyFrame
  split
  · exact .of_engine rfl (MemoryPort.keepsSystemSide_requestEngine _ (by simp)) rfl rfl
  · exact KeepsPorts.after (keepsPorts_presentBlockLine _ _ _ _ _) (by simp)
  all_goals exact .of_same (by simp)

theorem keepsPorts_applyTakeFrame (s : State) : KeepsPorts s (applyTakeFrame s) := by
  unfold applyTakeFrame judgeFrame
  split
  · split
    · split; · exact .of_same (by simp)
      split; · exact .of_same (by simp)
      split; · exact keepsPorts_applyFrame _ s
      split; · exact .of_same (by simp)
      split <;> exact .of_same (by simp)
    · exact .refl s
  · exact .refl s

theorem keepsPorts_advanceApply (s : State) : KeepsPorts s (advanceApply s) := by
  unfold advanceApply
  split
  · split
    · exact KeepsPorts.after (keepsPorts_presentBlockLine _ _ _ _ _) (by simp)
    · exact .of_same (by simp)
  · exact .of_same (by simp)

theorem keepsPorts_applyAnswer (answer : MemAnswer) (s : State) : KeepsPorts s (applyAnswer answer s) := by
  have hfault : KeepsPorts s (if answer = .error then applyFault s else s) := by
    split
    · exact .of_same (by simp)
    · exact .refl s
  unfold applyAnswer
  dsimp only
  split
  · exact hfault.trans (keepsPorts_advanceApply _)
  · exact hfault.andThen (by simp)
  · exact .refl s

theorem keepsPorts_applyWriteAnswer (answer : MemAnswer) (s : State) : KeepsPorts s (applyWriteAnswer answer s) := by
  unfold applyWriteAnswer
  split
  · rename_i t fate hbusy
    split
    · rename_i howner
      have hanswered : KeepsPorts s { s with mem := s.mem.answered } :=
        keepsPorts_answered (MemoryPort.systemAtMemory_busy hbusy (.inl (by simp [howner])))
      dsimp only
      split
      · exact hanswered.trans (keepsPorts_applyAnswer _ _)
      · exact hanswered
    · exact .refl s
  · exact .refl s

/-! ### The frame and the copies abandoned, and the link's moves -/

theorem keepsPorts_abandonFrame (s : State) : KeepsPorts s (abandonFrame s) := by
  unfold abandonFrame
  split
  · split
    · exact .of_engine rfl (MemoryPort.keepsSystemSide_withdrawEngine _) rfl rfl
    · exact .of_same (by simp)
  all_goals exact .refl s

/-- Between LISTENING and APPLYING a replica fences alike (R59). -/
theorem keepsPorts_replica {s t : State} (hs : s.mirror.replica = .listening ∨ s.mirror.replica = .applying)
    (ht : t.mirror.replica = .listening ∨ t.mirror.replica = .applying)
    (h : t.sys = s.sys ∧ t.mem = s.mem ∧ t.role = s.role ∧ t.regions = s.regions) : KeepsPorts s t := by
  obtain ⟨hsys, hmem, hrole, hregions⟩ := h
  refine .of_engine (by rw [hsys]) (.of_eq hmem) (Bool.eq_iff_iff.mpr ?_) hregions
  simp only [fencing_iff, hrole, hs, ht, and_true]

theorem keepsPorts_replicaLeftUp (s : State) : KeepsPorts s (replicaLeftUp s) := by
  unfold replicaLeftUp
  split
  · rename_i happlying
    have hlistening : KeepsPorts s { s with mirror.replica := .listening } :=
      keepsPorts_replica (.inr happlying) (.inl rfl) (by simp)
    exact (hlistening.trans (keepsPorts_abandonFrame _)).andThen (by simp)
  all_goals exact .refl s

theorem keepsPorts_replicaReachedUp (s : State) : KeepsPorts s (replicaReachedUp s) := by
  unfold replicaReachedUp
  split
  · rename_i hlistening
    exact keepsPorts_replica (.inl hlistening) (.inr rfl) (by simp)
  all_goals exact .refl s

theorem keepsPorts_linkLossTransition (s : State) : KeepsPorts s (linkLossTransition s) := by
  refine .of_engine ?_ (by simpa using MemoryPort.keepsSystemSide_withdrawEngine _) (by simp [State.fencing]) (by simp)
  rw [linkLossTransition_sys]
  split
  · rename_i hheld
    rw [hheld]
    rfl
  · rfl

theorem keepsPorts_reportLeftUp (s : State) : KeepsPorts s (reportLeftUp s) := by
  unfold reportLeftUp
  split
  · rw [originLeftUp_eq]
    split
    · exact keepsPorts_linkLossTransition s
    · exact .refl s
  · exact keepsPorts_replicaLeftUp s

theorem keepsPorts_leaveUp (dest : LeaveTo) (withBreak counted : Bool) (s : State) :
    KeepsPorts s (leaveUp dest withBreak counted s) := by
  unfold leaveUp
  dsimp only
  split <;> exact KeepsPorts.after (keepsPorts_reportLeftUp _) (by simp)

theorem keepsPorts_silenceExpiry (s : State) : KeepsPorts s (silenceExpiry s) := by
  unfold silenceExpiry
  split
  · exact keepsPorts_leaveUp _ _ _ s
  · exact .refl s

theorem keepsPorts_ackExpiry (s : State) : KeepsPorts s (ackExpiry s) := by
  unfold ackExpiry
  split
  · dsimp only
    split
    · exact KeepsPorts.after (keepsPorts_leaveUp _ _ _ _) (by simp)
    · exact .of_same (by simp)
  · exact .refl s

theorem keepsPorts_breakDetected (s : State) : KeepsPorts s (breakDetected s) := by
  unfold breakDetected takeBreakReport
  dsimp only
  (repeat' split)
  · exact .refl s
  · exact KeepsPorts.after (keepsPorts_leaveUp _ _ _ _) (by simp)
  · exact .of_same (by simp)

theorem keepsPorts_renewSession (s : State) : KeepsPorts s (renewSession s) := by
  unfold renewSession
  split
  · exact keepsPorts_leaveUp _ _ _ s
  · exact .refl s

theorem keepsPorts_resetLink (s : State) : KeepsPorts s (resetLink s) := by
  unfold resetLink
  split
  · exact keepsPorts_leaveUp _ _ _ s
  · exact .of_same (by simp)

theorem keepsPorts_setEnable (v : Bool) (s : State) : KeepsPorts s (setEnable v s) := by
  unfold setEnable clearLinkEnable
  dsimp only
  split
  · exact .of_same (by simp)
  · split
    · exact KeepsPorts.after (keepsPorts_leaveUp _ _ _ _) (by simp)
    all_goals exact .of_same (by simp)

/-! ### Frames received -/

theorem keepsPorts_receiveBytes {dispose : Frame → State → State} (h : ∀ f s, KeepsPorts s (dispose f s))
    (bytes : List Byte) (s : State) : KeepsPorts s (receiveBytes dispose bytes s) := by
  unfold receiveBytes
  split
  · split
    · exact .of_same (by simp)
    · exact .of_same (by simp)
    · exact .of_same (by simp)
    · exact KeepsPorts.after (h _ _) (by simp)
  · exact .refl s

theorem keepsPorts_answerHello (f : Frame) (s : State) : KeepsPorts s (answerHello f s) := by
  have habandoned : KeepsPorts s
      (abandonFrame { s with link.session := f.session, apply.expected := f.seq }) :=
    KeepsPorts.after (keepsPorts_abandonFrame _) (by simp)
  unfold answerHello
  dsimp only
  split
  · exact (habandoned.andThen (by simp)).trans (keepsPorts_replicaReachedUp _)
  · exact habandoned.andThen (by simp)

theorem keepsPorts_disposeHello (f : Frame) (s : State) : KeepsPorts s (disposeHello f s) := by
  unfold disposeHello takeHello
  split
  · split
    · split
      · exact .of_same (by simp)
      · exact keepsPorts_answerHello f s
    · split
      · exact .of_same (by simp)
      · exact .refl s
  · exact .refl s

/-- An origin that takes a HELLO_ACK has no replica state to move. -/
theorem takeHelloAck_replica (f : Frame) (fresh : Bool) (s : State) :
    (takeHelloAck f fresh s).mirror.replica = s.mirror.replica := by
  unfold takeHelloAck originEnterUp
  (repeat' split) <;> simp

theorem keepsPorts_disposeHelloAck (f : Frame) (s : State) : KeepsPorts s (disposeHelloAck f s) := by
  unfold disposeHelloAck
  split
  · exact .of_same (by simp [takeHelloAck_replica])
  · exact .refl s

theorem keepsPorts_disposeAck (f : Frame) (s : State) : KeepsPorts s (disposeAck f s) := by
  unfold disposeAck
  split <;> exact .of_same (by simp)

theorem keepsPorts_disposeNak (f : Frame) (s : State) : KeepsPorts s (disposeNak f s) := by
  unfold disposeNak
  split <;> exact .of_same (by simp)

theorem keepsPorts_disposeData (bytes : List Byte) (f : Frame) (s : State) :
    KeepsPorts s (disposeData bytes f s) := by
  unfold disposeData
  split <;> exact .of_same (by simp)

end Sys2Proof.Machine
end

section
/-! Resets, START, STOP and the service port at the two ports, and every step's keeping of them (R44, R59, R60, R76). -/

namespace Sys2Proof.Machine

/-! ### Resets -/

theorem softResetPort_carried (p : SystemPort) : (softResetPort p).phase.carried = p.phase.carried := by
  unfold softResetPort
  split
  · rename_i hheld
    rw [hheld]
    rfl
  · rfl

/-- SOFT_RESET keeps the system port's transaction on both sides, in a part that fences no more (R44, R76, R188). -/
theorem keepsPorts_takeSoftReset (pins : RequestPins) (selected : Bool) (s : State) :
    KeepsPorts s (takeSoftReset pins selected s) := by
  unfold takeSoftReset
  split
  · refine .of_unfenced (softResetPort_carried s.sys) (MemoryPort.keepsSystemSide_softReset s.mem) ?_
    simp [State.fencing, State.reset, Mirror.reset]
  · exact .refl s

/-- PORST withdraws the system port's request and drops the answer of its transaction (R76). -/
theorem keepsPorts_porstAssert (s : State) : KeepsPorts s (porstAssert s) := by
  have hphase : ∀ t, s.mem.powerReset.phase ≠ .busy t .passed := by
    intro t
    unfold MemoryPort.powerReset
    cases s.mem.phase <;> simp
  exact .of_settled rfl (MemoryPort.systemAtMemory_eq_none fun t ht => absurd ht (hphase t)) (fun _ => rfl)
    fun _ => ⟨fun _ => ⟨rfl, rfl⟩, fun _ hq => (nomatch hq)⟩

/-- A part held under PORST has its replica DISABLED, and so it fences in neither role when it is released (R193). -/
theorem portsStep_porstDeassert (roleHigh : Bool) (pins : RequestPins) (selected : Bool) (s : State) :
    PortsStep s (porstDeassert roleHigh pins selected s) := by
  unfold porstDeassert
  split
  · rename_i hporst
    refine ⟨id, fun _ hs _ => (fenceOk_iff _).mpr fun hf => ?_, fun _ _ _ _ hm hne => absurd hm hne⟩
    simp only [State.statesOk, State.porstOk, hporst, Bool.and_eq_true, beq_iff_eq, Bool.not_true, Bool.false_or] at hs
    obtain ⟨-, ⟨⟨-, hdisabled⟩, -⟩, -⟩ := hs
    obtain ⟨-, hf⟩ := (fencing_iff _).mp hf
    simp [hdisabled] at hf
  · exact (KeepsPorts.refl s).portsStep

/-! ### START, STOP and the region table -/

/-- START of a replica fences a mirrored write that waits for memory, so that none waits behind the fence (R60). -/
theorem keepsPorts_fenceWaiting {s t : State} (h : t.sys = s.sys ∧ t.mem = s.mem) : KeepsPorts s (fenceWaiting t) := by
  obtain ⟨hsys, hmem⟩ := h
  have hfence : (∀ m, t.mem.systemRequest = some m → m.kind.isWrite = true →
      t.mirrored m.address = false) → ∀ u : State, u.mem = t.mem → u.regions = t.regions → u.fenceOk = true := by
    intro hclear u humem hregions
    refine (fenceOk_iff u).mpr fun _ m hm hw => ?_
    rw [State.mirrored, hregions]
    exact hclear m (humem ▸ hm) hw
  unfold fenceWaiting
  split
  · rename_i w hphase
    have hcarried : s.sys.phase.carried = some (memTransactionOf w) := by rw [← hsys, hphase]; rfl
    have hwaits : s.portsOk = true → ∀ m, t.mem.systemRequest = some m → m = memTransactionOf w := by
      intro hp m hm
      exact Option.some.inj ((carried_of_systemRequest hp (hmem ▸ hm)).1.symm.trans hcarried)
    split
    · rename_i hwrite
      dsimp only
      split
      · exact .of_withdrawn (hmem ▸ hwrite.1) rfl (by rw [← hmem]; rfl)
      · rename_i hnot
        refine .of_systemSide hcarried.symm (.of_eq hmem) fun hp _ => hfence (fun m hm _ => ?_) _ rfl rfl
        rw [hwaits hp m hm, memTransactionOf_address]
        simpa using hnot
    · rename_i hread
      refine .of_systemSide (by rw [hsys]) (.of_eq hmem) fun hp _ => hfence (fun m hm hw => ?_) _ rfl rfl
      rw [hwaits hp m hm, memTransactionOf_kind] at hw
      exact absurd ⟨by simp [hm], hw⟩ hread
  · rename_i hphase
    refine .of_systemSide (by rw [hsys]) (.of_eq hmem) fun hp _ => hfence (fun m hm _ => ?_) _ rfl rfl
    have hnone := (systemRequest_of_carried hp (carried_eq_none (hsys ▸ hphase))).1
    cases (hmem ▸ hm : s.mem.systemRequest = some m).symm.trans hnone

theorem keepsPorts_stopMirroring (s : State) : KeepsPorts s (stopMirroring s) := by
  refine .of_engine ?_ ?_ (by simp [State.fencing]) (by simp)
  · rw [stopMirroring_sys]
    split
    · rename_i hheld
      rw [hheld]
      rfl
    · rfl
  · rw [stopMirroring_mem]
    exact MemoryPort.keepsSystemSide_withdrawEngine _

theorem keepsPorts_stopReplica (s : State) : KeepsPorts s (stopReplica s) := by
  have hdisabled : KeepsPorts s { s with mirror.replica := .disabled, apply.fault := false } :=
    .of_unfenced rfl (.refl _) (by simp [State.fencing])
  have hended := (hdisabled.trans (keepsPorts_abandonFrame _)).andThen (u := endReplica s) (by simp [endReplica])
  unfold stopReplica
  dsimp only
  split
  · exact hended.trans (keepsPorts_leaveUp _ _ _ _)
  · exact hended

theorem keepsPorts_respond {s t : State} (r : Response) (h : KeepsPorts s t) : KeepsPorts s (respond r t) :=
  h.andThen (by simp)

theorem keepsPorts_acceptIf {f : State → State} (ok : Bool) (h : ∀ s, KeepsPorts s (f s)) (s : State) :
    KeepsPorts s (acceptIf ok f s) := by
  unfold acceptIf
  split
  · exact keepsPorts_respond _ (h s)
  · exact .of_same (by simp)

theorem keepsPorts_acceptIf_same {f : State → State} (ok : Bool) (h : ∀ s, SamePorts s (f s)) (s : State) :
    KeepsPorts s (acceptIf ok f s) :=
  keepsPorts_acceptIf ok (fun s => .of_same (h s)) s

theorem keepsPorts_commandStart (s : State) : KeepsPorts s (commandStart s) := by
  refine keepsPorts_acceptIf _ (fun s => ?_) s
  split
  · exact KeepsPorts.after (keepsPorts_renewSession _) (by simp)
  · exact keepsPorts_fenceWaiting (by simp)

theorem keepsPorts_commandStop (s : State) : KeepsPorts s (commandStop s) := by
  refine keepsPorts_acceptIf _ (fun s => ?_) s
  split
  · exact (keepsPorts_stopMirroring s).trans (keepsPorts_renewSession _)
  · exact keepsPorts_stopReplica s

/-- The region table is written in DISABLED alone, where no write is fenced (R47, R59). -/
theorem keepsPorts_writeRegionRegister (n : Fin 8) (half : RegionHalf) (v : Word) (s : State) :
    KeepsPorts s (writeRegionRegister n half v s) := by
  unfold writeRegionRegister acceptIf
  split
  · rename_i hdisabled
    refine .of_unfenced rfl (.refl _) ?_
    rw [Bool.eq_false_iff, ne_eq, fencing_iff]
    rintro ⟨hrole, hstate⟩
    have hrole' : s.role = .replica := hrole
    have hreplica : s.mirror.replica = .disabled := by simpa [State.roleDisabled, hrole'] using hdisabled
    simp [hreplica] at hstate
  · exact .of_same (by simp)

/-! ### The service port -/

theorem keepsPorts_whenServed {f : State → State} (h : ∀ s, KeepsPorts s (f s)) (s : State) :
    KeepsPorts s (whenServed f s) := by
  unfold whenServed endTransaction
  split
  · exact .refl s
  · split
    · exact .of_same (by simp)
    · exact ((keepsPorts_takeSoftReset ⟨s.markPin, s.drainPin⟩ false s).andThen (by simp)).trans (h _)

theorem keepsPorts_commandLinkReset (s : State) : KeepsPorts s (commandLinkReset s) :=
  keepsPorts_acceptIf _ keepsPorts_resetLink s

theorem keepsPorts_commandDrain (s : State) : KeepsPorts s (commandDrain s) := by
  unfold commandDrain
  dsimp only
  (repeat' split) <;> exact .of_same (by simp)

theorem keepsPorts_writeCommand (code : Byte) (s : State) : KeepsPorts s (writeCommand code s) := by
  unfold writeCommand
  split; · exact keepsPorts_commandStart s
  split; · exact keepsPorts_commandStop s
  split; · exact keepsPorts_acceptIf_same _ (by simp) s
  split; · exact keepsPorts_acceptIf_same _ (by simp) s
  split; · exact keepsPorts_acceptIf_same _ (by simp) s
  split; · exact keepsPorts_acceptIf_same _ (by simp) s
  split; · exact keepsPorts_commandDrain s
  split; · exact keepsPorts_commandLinkReset s
  (repeat' split) <;> exact .of_same (by simp [commandClearCounters, commandSoftReset])

theorem keepsPorts_writeControl (v : Word) (s : State) : KeepsPorts s (writeControl v s) :=
  keepsPorts_respond _ (KeepsPorts.after (keepsPorts_setEnable _ _) (by simp))

theorem keepsPorts_writeLinkcfgRegister (v : Word) (s : State) : KeepsPorts s (writeLinkcfgRegister v s) := by
  unfold writeLinkcfgRegister
  split <;> exact .of_same (by simp)

theorem keepsPorts_writeRegister (index : Byte) (v : Word) (s : State) : KeepsPorts s (writeRegister index v s) := by
  unfold writeRegister
  split; · exact keepsPorts_writeControl v s
  split; · exact keepsPorts_writeCommand _ s
  split; · exact .of_same (by simp [writeCause])
  split; · exact .of_same (by simp [writeEnable])
  split; · exact keepsPorts_writeLinkcfgRegister v s
  split; · exact .of_same (by simp [writeAckcfgRegister])
  split; · exact .of_same (by simp [writeKeepcfgRegister])
  split; · exact .of_same (by simp [writePacecfgRegister])
  split; · exact .of_same (by simp [writeCopycfgRegister])
  split
  · exact keepsPorts_writeRegionRegister _ _ v s
  · split <;> exact .of_same (by simp)

theorem keepsPorts_clockByte (b : Byte) (s : State) : KeepsPorts s (clockByte b s) := by
  unfold clockByte takeAtDataEnd
  split
  case h_3 =>
    split
    · exact .of_same (by simp)
    · split
      · exact keepsPorts_writeRegister _ _ s
      · exact .of_same (by simp)
  all_goals exact .of_same (by simp)

theorem keepsPorts_clockBytes (data : List Byte) (s : State) :
    KeepsPorts s (data.foldl (fun s b => clockByte b s) s) := by
  induction data generalizing s with
  | nil => exact .refl s
  | cons b bs ih => exact (keepsPorts_clockByte b s).trans (ih _)

theorem keepsPorts_clockHead (opcode index : Byte) (s : State) : KeepsPorts s (clockHead opcode index s) :=
  keepsPorts_clockBytes [opcode, index] s

theorem keepsPorts_writeTransaction (index : Byte) (data : List Byte) (s : State) :
    KeepsPorts s (writeTransaction index data s) := by
  have hclocked := (keepsPorts_clockHead 0x02 index s).trans (keepsPorts_clockBytes data _)
  unfold writeTransaction
  dsimp only
  split
  · exact hclocked.andThen (by simp)
  · exact hclocked

/-! ### Blocks that reach neither port -/

theorem keepsPorts_dirtyMarkReport (s : State) : KeepsPorts s (dirtyMarkReport s) := by
  unfold dirtyMarkReport
  dsimp only
  (repeat' split) <;> exact .of_same (by simp)

theorem keepsPorts_mirrorAckReport (s : State) : KeepsPorts s (mirrorAckReport s) := by
  unfold mirrorAckReport
  dsimp only
  (repeat' split) <;> exact .of_same (by simp)

theorem keepsPorts_pacingExpiry (s : State) : KeepsPorts s (pacingExpiry s) := by
  unfold pacingExpiry
  dsimp only
  (repeat' split) <;> exact .of_same (by simp)

theorem keepsPorts_markPin (level : Bool) (s : State) : KeepsPorts s (markPin level s) := by
  unfold markPin
  dsimp only
  (repeat' split) <;> exact .of_same (by simp)

theorem keepsPorts_drainPin (level : Bool) (s : State) : KeepsPorts s (drainPin level s) := by
  unfold drainPin
  dsimp only
  (repeat' split) <;> exact .of_same (by simp)

theorem keepsPorts_offerLoad (s : State) : KeepsPorts s (offerLoad s) := by
  unfold offerLoad
  (repeat' split) <;> exact .of_same (by simp)

theorem keepsPorts_frameBoundary (s : State) : KeepsPorts s (frameBoundary s) := by
  unfold frameBoundary
  (repeat' split) <;> exact .of_same (by simp)

theorem keepsPorts_frameEnd (s : State) : KeepsPorts s (frameEnd s) := by
  unfold frameEnd
  dsimp only
  (repeat' split) <;> exact .of_same (by simp)

theorem keepsPorts_breakStart (s : State) : KeepsPorts s (breakStart s) := by
  unfold breakStart
  dsimp only
  (repeat' split) <;> exact .of_same (by simp)

theorem keepsPorts_breakEnd (s : State) : KeepsPorts s (breakEnd s) := by
  unfold breakEnd
  dsimp only
  (repeat' split) <;> exact .of_same (by simp)

theorem keepsPorts_receiverAlign (s : State) : KeepsPorts s (receiverAlign s) := by
  unfold receiverAlign
  dsimp only
  (repeat' split) <;> exact .of_same (by simp)

theorem keepsPorts_rxFraming (c : FramingCheck) (s : State) : KeepsPorts s (rxFraming c s) := by
  unfold rxFraming
  dsimp only
  (repeat' split) <;> exact .of_same (by simp)

theorem keepsPorts_rxTruncation (s : State) : KeepsPorts s (rxTruncation s) := by
  unfold rxTruncation
  (repeat' split) <;> exact .of_same (by simp)

theorem keepsPorts_helloKeepaliveExpiry (s : State) : KeepsPorts s (helloKeepaliveExpiry s) := by
  unfold helloKeepaliveExpiry
  dsimp only
  (repeat' split) <;> exact .of_same (by simp)

/-! ### The step -/

theorem portsStep_exec (c : Instr) (s t : State) (h : exec c s = .next t) : PortsStep s t := by
  have held : ∀ {f : State → State}, (∀ s, KeepsPorts s (f s)) → PortsStep s (unlessPorst f s) :=
    fun hf => (keepsPorts_unlessPorst hf s).portsStep
  have served : ∀ {f : State → State}, (∀ s, KeepsPorts s (f s)) → PortsStep s (whenServed f s) :=
    fun hf => (keepsPorts_whenServed hf s).portsStep
  cases c <;> obtain rfl := (Host.Outcome.next.inj h)
  case masterTransaction r =>
    unfold unlessPorst
    split
    · exact (KeepsPorts.refl s).portsStep
    · exact portsStep_masterTransaction r s
  case memoryReady => exact portsStep_memoryReady s
  case porstDeassert role pins selected => exact portsStep_porstDeassert role pins selected s
  case porstAssert => exact (keepsPorts_porstAssert s).portsStep
  case softResetTaken pins selected => exact held (keepsPorts_takeSoftReset pins selected)
  case systemMemoryAnswer beats data => exact (keepsPorts_systemMemoryAnswer _ data s).portsStep
  case lineReadAnswer beats data => exact (keepsPorts_lineReadAnswer _ data s).portsStep
  case applyWriteAnswer beats => exact (keepsPorts_applyWriteAnswer _ s).portsStep
  case completionTaken => exact held keepsPorts_completionTaken
  case stallTimerExpiry => exact held keepsPorts_stallExpiry
  case heldWriteAckReport => exact held keepsPorts_heldWriteAckReport
  case srstAssert => exact (keepsPorts_srstAssert s).portsStep
  case srstDeassert => exact KeepsPorts.portsStep (.of_same (by simp [srstDeassert]))
  case copyStart => exact held keepsPorts_takeCopyStart
  case applyTakeFrame => exact held keepsPorts_applyTakeFrame
  case silenceTimerExpiry => exact held keepsPorts_silenceExpiry
  case ackTimerExpiry => exact held keepsPorts_ackExpiry
  case breakDetected => exact held keepsPorts_breakDetected
  case dataFrameReceived bytes => exact held (keepsPorts_receiveBytes (keepsPorts_disposeData bytes) bytes)
  case helloReceived bytes => exact held (keepsPorts_receiveBytes keepsPorts_disposeHello bytes)
  case helloAckReceived bytes => exact held (keepsPorts_receiveBytes keepsPorts_disposeHelloAck bytes)
  case ackReceived bytes => exact held (keepsPorts_receiveBytes keepsPorts_disposeAck bytes)
  case nakReceived bytes => exact held (keepsPorts_receiveBytes keepsPorts_disposeNak bytes)
  case start => exact served keepsPorts_commandStart
  case stop => exact served keepsPorts_commandStop
  case drain => exact served keepsPorts_commandDrain
  case linkReset => exact served keepsPorts_commandLinkReset
  case unknownCommand code => exact served (keepsPorts_writeCommand code)
  case controlLinkEnable v => exact served fun s => keepsPorts_respond _ (keepsPorts_setEnable v s)
  case linkcfg v => exact served (keepsPorts_writeLinkcfgRegister v)
  case region n half v => exact served (keepsPorts_writeRegionRegister n half v)
  case registerWrite index data => exact served (keepsPorts_writeTransaction index data)
  case invalidOpcode opcode index => exact served (keepsPorts_clockHead opcode index)
  case clearCounters => exact served fun _ => .of_same (by simp [commandClearCounters])
  case softReset => exact served fun _ => .of_same (by simp [commandSoftReset])
  case cause v => exact served fun _ => .of_same (by simp [writeCause])
  case enable v => exact served fun _ => .of_same (by simp [writeEnable])
  case controlMerge v => exact served fun _ => .of_same (by simp)
  case controlArb v => exact served fun _ => .of_same (by simp)
  case controlPace v => exact served fun _ => .of_same (by simp)
  case ackcfg v => exact served fun _ => .of_same (by simp [writeAckcfgRegister])
  case keepcfg v => exact served fun _ => .of_same (by simp [writeKeepcfgRegister])
  case pacecfg v => exact served fun _ => .of_same (by simp [writePacecfgRegister])
  case copycfg v => exact served fun _ => .of_same (by simp [writeCopycfgRegister])
  case reseed => exact served fun s => keepsPorts_acceptIf_same _ (by simp) s
  case pause => exact served fun s => keepsPorts_acceptIf_same _ (by simp) s
  case resync => exact served fun s => keepsPorts_acceptIf_same _ (by simp) s
  case mark => exact served fun s => keepsPorts_acceptIf_same _ (by simp) s
  case dirtyMarkReport => exact held keepsPorts_dirtyMarkReport
  case mirrorAckReport => exact held keepsPorts_mirrorAckReport
  case copyPacingTimerExpiry => exact held keepsPorts_pacingExpiry
  case load => exact held keepsPorts_offerLoad
  case frameBoundary => exact held keepsPorts_frameBoundary
  case frameEnd => exact held keepsPorts_frameEnd
  case breakStart => exact held keepsPorts_breakStart
  case breakEnd => exact held keepsPorts_breakEnd
  case receiverAlign => exact held keepsPorts_receiverAlign
  case rxFraming c => exact held (keepsPorts_rxFraming c)
  case rxTruncation => exact held keepsPorts_rxTruncation
  case helloKeepaliveTimerExpiry => exact held keepsPorts_helloKeepaliveExpiry
  case markPinEdge level => exact held (keepsPorts_markPin level)
  case drainPinEdge level => exact held (keepsPorts_drainPin level)

/-- The step does to the ports what its command does, or clocks the service port (R181). -/
theorem portsStep_step (s t : State) (h : step s = .next t) : PortsStep s t := by
  unfold step at h
  split at h
  · obtain rfl := Host.Outcome.next.inj h
    exact KeepsPorts.portsStep (.of_same (by simp))
  · obtain ⟨hports, hfence, hgrant⟩ := portsStep_exec _ _ t h
    exact ⟨hports, hfence, hgrant⟩

/-- Settles O56: each command keeps the ports in agreement. -/
theorem stepsKeepPortsInAgreement : Obligations.StepsKeepPortsInAgreement := by
  unfold Obligations.StepsKeepPortsInAgreement
  exact fun s t h => (portsStep_step s t h).ports

/-- Settles O59: what waits behind a fence is not mirrored, and a grant takes what waits or what the master issues. -/
theorem fencedWritesNeverReachMemory : Obligations.FencedWritesNeverReachMemory := by
  unfold Obligations.FencedWritesNeverReachMemory
  intro s t h hp hs hf
  exact ⟨(portsStep_step s t h).fence hp hs hf, fun hfs _ => (portsStep_step s t h).grant hp hf hfs⟩

end Sys2Proof.Machine
end

section
/-! The master's transactions at the system port: issue and fence (R42, R48, R59, R61, R62, R69), the answers that
capture nothing (R43, R49, R51, R67, R72), the release of a held write (R54, R55), and SRST (R57, R62, R63). -/

namespace Sys2Proof.Machine

/-! ### Issue -/

theorem exec_masterTransaction {s : State} (r : MasterRequest) (hp : s.porst = false) :
    exec (.masterTransaction r) s = .next (masterTransaction r s) := by
  simp [exec, execMasterTransaction, unlessPorst, hp]

theorem masterTransaction_idle {s : State} (r : MasterRequest) (hsrst : s.srst = false) (hidle : s.sys.phase = .idle) :
    masterTransaction r s = if s.fencing && (issuedRecord r s).lookup == some true then fenceWrite (issuedRecord r s) s
      else toMemory (issuedRecord r s) s := by
  simp [masterTransaction, hsrst, hidle]

/-- Outside IDLE, and under SRST, the port takes no transaction (R42, R62). -/
theorem masterTransaction_refused {s : State} (r : MasterRequest) (h : s.srst = true ∨ s.sys.phase ≠ .idle) :
    masterTransaction r s = s := by
  unfold masterTransaction
  split
  · rfl
  · rename_i hsrst
    split
    · rename_i hidle
      exact absurd hidle (h.resolve_left hsrst)
    · rfl

@[simp] theorem recordOf_lookup (r : MasterRequest) : (recordOf r).lookup = none := by
  cases r <;> rfl

/-- The lookup that an issue keeps is the replica's, of a write (R48). -/
theorem issuedRecord_eq (r : MasterRequest) (s : State) : issuedRecord r s = { recordOf r with
    lookup := if s.role = .replica ∧ (recordOf r).kind.isWrite = true
      then some (s.mirrored (recordOf r).address) else none } := by
  unfold issuedRecord
  dsimp only
  split
  · rfl
  · rw [← recordOf_lookup r]

/-- What a fencing replica fences: a mirrored write (R59). -/
theorem fences_iff (r : MasterRequest) (s : State) : (s.fencing && (issuedRecord r s).lookup == some true) = true ↔
    s.role = .replica ∧ (s.mirror.replica = .listening ∨ s.mirror.replica = .applying) ∧
      (recordOf r).kind.isWrite = true ∧ s.mirrored (recordOf r).address = true := by
  rw [Bool.and_eq_true, fencing_iff, issuedRecord_eq]
  by_cases hwrite : s.role = .replica ∧ (recordOf r).kind.isWrite = true
  · simp [hwrite]
  · simp only [hwrite, if_false]
    simp only [not_and] at hwrite
    simp +contextual [hwrite]

theorem requestSystem_eq (q : MemTransaction) (p : MemoryPort) : p.requestSystem q =
    if p.phase = .free then { p with phase := .busy q .passed, lastGranted := .system }
    else { p with systemRequest := some q } := by
  unfold MemoryPort.requestSystem
  split <;> simp_all [MemoryPort.grant]

/-- Settles O6: an issue is fenced, or it goes to memory, and one outside IDLE or under SRST is not taken. -/
theorem masterTransactionGoesToMemoryOrIsFenced : Obligations.MasterTransactionGoesToMemoryOrIsFenced := by
  unfold Obligations.MasterTransactionGoesToMemoryOrIsFenced
  refine ⟨⟨fun r s hp hsrst hidle hthrough => ⟨_, rfl, ?_⟩, fun r s hp hrefused => ?_⟩,
    fun r s hp hsrst hidle hrole hstate hwrite hmirrored => ?_⟩
  · rw [exec_masterTransaction r hp, masterTransaction_idle r hsrst hidle, if_neg (mt (fences_iff r s).mp hthrough),
      ← issuedRecord_eq, ← requestSystem_eq]
    rfl
  · rw [exec_masterTransaction r hp, masterTransaction_refused r hrefused]
  · rw [exec_masterTransaction r hp, masterTransaction_idle r hsrst hidle,
      if_pos ((fences_iff r s).mpr ⟨hrole, hstate, hwrite, hmirrored⟩), issuedRecord_eq,
      if_pos ⟨hrole, hwrite⟩, hmirrored]
    rfl

/-! ### Answers that capture nothing -/

/-- The answer of the system port's transaction is taken as the answer to the whole (R67, R72). -/
theorem exec_systemMemoryAnswer_passed {m : MemTransaction} {t : Transaction} {s : State} (beats : List MemAnswer)
    (data : Line) (hbusy : s.mem.phase = .busy m .passed) (howner : m.owner = .system)
    (hphase : s.sys.phase = .atMemory t) : exec (.systemMemoryAnswer beats data) s =
      .next (systemAnswer t (wholeAnswer beats) data { s with mem := s.mem.answered }) := by
  simp only [exec, execSystemMemoryAnswer, systemMemoryAnswer, hbusy, howner, hphase]

theorem exec_systemMemoryAnswer_dropped {m : MemTransaction} {s : State} (beats : List MemAnswer) (data : Line)
    (hbusy : s.mem.phase = .busy m .dropped) (howner : m.owner = .system) :
    exec (.systemMemoryAnswer beats data) s = .next { s with mem := s.mem.answered } := by
  simp only [exec, execSystemMemoryAnswer, systemMemoryAnswer, hbusy, howner]

theorem exec_systemMemoryAnswer_abandoned {m : MemTransaction} {s : State} (beats : List MemAnswer) (data : Line)
    (hbusy : s.mem.phase = .busy m .abandonedBySrst) (howner : m.owner = .system) :
    exec (.systemMemoryAnswer beats data) s =
      .next (settleAbandoned m (wholeAnswer beats) { s with mem := s.mem.answered }) := by
  simp only [exec, execSystemMemoryAnswer, systemMemoryAnswer, hbusy, howner]

theorem systemAnswer_read {t : Transaction} (data : Line) (s : State) (h : t.kind.isWrite = false) :
    systemAnswer t .ok data s = completeSystem t .ok (readData t.kind data) s := by
  simp [systemAnswer, h]

theorem systemAnswer_replicaWrite {t : Transaction} (data : Line) {s : State} (h : t.kind.isWrite = true)
    (hrole : s.role = .replica) : systemAnswer t .ok data s = completeSystem t .ok 0 s := by
  simp [systemAnswer, h, hrole]

/-- A write of the origin that is not mirrored, or answered in DISABLED, is not captured (R49, R51). -/
theorem systemAnswer_uncaptured {t : Transaction} (data : Line) {s : State} (h : t.kind.isWrite = true)
    (hrole : s.role = .origin) (huncaptured : s.mirrored t.address = false ∨ s.mirror.state = .disabled) :
    systemAnswer t .ok data s = completeSystem { t with lookup := some (s.mirrored t.address) } .ok 0 s := by
  have horigin : systemAnswer t .ok data s = originWriteOk t s := by simp [systemAnswer, h, hrole]
  rw [horigin, originWriteOk]
  rcases huncaptured with hlookup | hdisabled
  · simp [hlookup]
  · simp [hdisabled]

/-- Settles O8. -/
theorem uncapturedAnswerCompletes : Obligations.UncapturedAnswerCompletes := by
  unfold Obligations.UncapturedAnswerCompletes
  refine ⟨⟨fun m t oks errs data s hoks herrs hbusy howner hphase => ?_, fun m beats data s hbusy howner => ?_,
    fun t code data s hp hphase => ?_⟩, fun s => ⟨fun hnone => ?_, fun t code data hphase => ?_⟩⟩
  · have hanswer := fun beats => exec_systemMemoryAnswer_passed beats data hbusy howner hphase
    rw [hanswer errs, hanswer oks, wholeAnswer_error herrs, wholeAnswer_ok hoks]
    refine ⟨rfl, fun hk => ?_, fun hk => ?_, fun hw hrole => ?_, fun hw hrole huncaptured => ?_⟩
    · rw [systemAnswer_read data _ (by rw [hk]; rfl), hk]
      rfl
    · rw [systemAnswer_read data _ (by rw [hk]; rfl), hk]
      rfl
    · exact congrArg _ (systemAnswer_replicaWrite data hw hrole)
    · exact congrArg _ (systemAnswer_uncaptured data hw hrole huncaptured)
  · exact exec_systemMemoryAnswer_dropped beats data hbusy howner
  · simp [exec, execCompletionTaken, unlessPorst, hp, completionTaken, hphase]
  · unfold State.syrdy State.syerr State.syfnc State.sydBeats
    cases hphase : s.sys.phase with
    | complete t code data => exact absurd hphase (hnone t code data)
    | idle => simp
    | atMemory t => simp
    | held t => simp
  · refine ⟨?_, ?_, ?_, fun hk => ?_, fun hk => ?_, fun hw => ?_⟩
    · simp [State.syrdy, hphase]
    · simp [State.syerr, hphase, beq_eq_decide]
    · simp [State.syfnc, hphase, beq_eq_decide]
    · simp [State.sydBeats, hphase, hk, TxnKind.isWrite, TxnKind.beats, lineWords, lineWord]
    · simp [State.sydBeats, hphase, hk, TxnKind.isWrite, TxnKind.beats, lineWords, lineWord, List.range_succ]
    · simp [State.sydBeats, hphase, hw]

/-! ### Releases of a held write -/

/-- The examination looks at nothing of the system port, the causes or the counters. -/
theorem releaseHeld_examineCopy (t : Transaction) (s : State) :
    releaseHeld t (examineCopy s) = examineCopy (releaseHeld t s) := by
  have hsame : (releaseHeld t s).mayDecideCopy = s.mayDecideCopy := rfl
  unfold examineCopy
  rw [hsame]
  split <;> rfl

/-- Capture takes an acknowledge-through report with a write held (R54). -/
theorem exec_heldWriteAckReport {t : Transaction} {n : Nat} {s : State} (hp : s.porst = false)
    (hheld : s.sys.phase = .held t) (hn : s.reports.captureAcks = n + 1) :
    exec .heldWriteAckReport s = .next (if s.belowWatermark then releaseIntoJournal t { s with reports.captureAcks := n }
      else { s with reports.captureAcks := n }) := by
  simp only [exec, execHeldWriteAckReport, unlessPorst, hp, heldWriteAckReport, hn, hheld]
  rfl

theorem releaseIntoJournal_merge {t : Transaction} {s : State} (h : s.mayMerge (lineAddress t.address) = true) :
    releaseIntoJournal t s = releaseHeld t (mergeWrite t s) := by
  rw [releaseIntoJournal, if_pos h]

theorem releaseIntoJournal_append {t : Transaction} {s : State} (h : s.mayMerge (lineAddress t.address) = false) :
    releaseIntoJournal t s = releaseHeld t (appendWrite t s) := by
  rw [releaseIntoJournal, h]
  rfl

/-- Settles O11: the stall timer's release goes into the map, and a report's by the watermark into the journal. -/
theorem heldWriteIsReleased : Obligations.HeldWriteIsReleased := by
  unfold Obligations.HeldWriteIsReleased
  refine fun t s hp hheld => ⟨fun htimer => ?_, fun n hn => ?_⟩
  · have hexpiry : exec .stallTimerExpiry s = .next (releaseHeld t (examineCopy
        (raise .stallExpired (bump .stallExpiries (markDirty (blockOf t.address) s))))) := by
      simp [exec, execStallTimerExpiry, unlessPorst, hp, stallExpiry, hheld, htimer]
    rw [hexpiry, releaseHeld_examineCopy]
    rfl
  · rw [exec_heldWriteAckReport hp hheld hn]
    refine ⟨fun hle => ?_, fun hlt => ?_⟩
    · rw [show s.belowWatermark = false from decide_eq_false (Nat.not_lt_of_le hle)]
      rfl
    · rw [show s.belowWatermark = true from decide_eq_true hlt]
      exact ⟨fun hmerge => congrArg _ (releaseIntoJournal_merge hmerge),
        fun hmerge => congrArg _ (releaseIntoJournal_append hmerge)⟩

/-! ### SRST -/

theorem srstAssert_eq {s : State} (h : s.srst = false) :
    exec .srstAssert s = .next { settleSrst s with srst := true, sys := ⟨.idle, none⟩ } := by
  simp [exec, execSrstAssert, srstAssert, h]

theorem abandonSystem_passed {p : MemoryPort} {m : MemTransaction} (hbusy : p.phase = .busy m .passed)
    (howner : m.owner = .system) : p.abandonSystem = { p with phase := .busy m .abandonedBySrst } := by
  simp [MemoryPort.abandonSystem, hbusy, howner]

/-- The write that an abandoned answer still marks (R63). -/
theorem settleAbandoned_marks {m : MemTransaction} {answer : MemAnswer} {s : State} (h : m.kind.isWrite = true ∧
    answer = .ok ∧ s.role = .origin ∧ s.mirrored m.address = true ∧ s.mirror.state ≠ .disabled) :
    settleAbandoned m answer s = examineCopy (markDirty (blockOf m.address) s) := if_pos h

theorem settleAbandoned_nothing {m : MemTransaction} {answer : MemAnswer} {s : State} (h : ¬(m.kind.isWrite = true ∧
    answer = .ok ∧ s.role = .origin ∧ s.mirrored m.address = true ∧ s.mirror.state ≠ .disabled)) :
    settleAbandoned m answer s = s := if_neg h

/-- Settles O12: SRST by the port's phase, and the later answer of what it abandoned. -/
theorem srstSettlesSystemPortAndItsAnswer : Obligations.SrstSettlesSystemPortAndItsAnswer := by
  unfold Obligations.SrstSettlesSystemPortAndItsAnswer
  refine ⟨⟨fun s hs => ?_, fun s => rfl⟩, fun m beats answer data s hanswer hbusy howner => ?_⟩
  · rw [srstAssert_eq hs]
    refine ⟨fun hphase => ?_, fun t hphase => ⟨fun hwaits => ?_, fun m hnone hbusy howner => ?_⟩, fun t hphase => ?_,
      fun t code data hphase => ?_⟩
    · simp [settleSrst, hphase]
    · simp [settleSrst, hphase, hwaits, MemoryPort.withdrawSystem]
    · simp [settleSrst, hphase, hnone, abandonSystem_passed hbusy howner]
    · simp only [settleSrst, hphase]
      rfl
    · simp [settleSrst, hphase]
  · have hwhole : wholeAnswer beats = answer := hanswer.symm
    rw [exec_systemMemoryAnswer_abandoned beats data hbusy howner, hwhole]
    exact ⟨fun hmarks => congrArg _ (settleAbandoned_marks hmarks), fun hnot => congrArg _ (settleAbandoned_nothing hnot)⟩

/-! ### The region table -/

theorem contains_iff (r : Region) (b : Block) :
    r.contains b = true ↔ r.enable = true ∧ r.base.toNat ≤ b.toNat ∧ b.toNat ≤ r.limit.toNat := by
  simp [Region.contains, and_assoc]

/-- The lowest-numbered entry that contains the block decides (R46). -/
theorem lookupBlock_iff (table : List Region) (b : Block) : lookupBlock table b = true ↔
    ∃ (i : Nat) (r : Region), table[i]? = some r ∧ r.contains b = true ∧ r.mode = .mirror ∧
      ∀ (j : Nat) (q : Region), j < i → table[j]? = some q → q.contains b = false := by
  unfold lookupBlock
  constructor
  · intro h
    split at h
    · rename_i r hfind
      obtain ⟨hc, i, hi, hget, hbefore⟩ := List.find?_eq_some_iff_getElem.mp hfind
      refine ⟨i, r, by simp [hi, hget], hc, by simpa using h, fun j q hj hq => ?_⟩
      obtain ⟨hlt, rfl⟩ := List.getElem?_eq_some_iff.mp hq
      simpa using hbefore j hj
    · cases h
  · rintro ⟨i, r, hget, hc, hmode, hbefore⟩
    obtain ⟨hi, hr⟩ := List.getElem?_eq_some_iff.mp hget
    have hfind : table.find? (fun r => r.contains b) = some r :=
      List.find?_eq_some_iff_getElem.mpr ⟨hc, i, hi, hr, fun j hj => by
        simp [hbefore j table[j] hj (List.getElem?_eq_getElem _)]⟩
    simp [hfind, hmode]

theorem blockOf_toNat (a : Addr) : (blockOf a).toNat = a.toNat / 1024 := by
  have ha := a.isLt
  rw [blockOf, BitVec.extractLsb'_toNat, Nat.shiftRight_eq_div_pow]
  omega

/-- Settles O13. -/
theorem lookupTakesLowestMatchingEntry : Obligations.LookupTakesLowestMatchingEntry := by
  unfold Obligations.LookupTakesLowestMatchingEntry
  refine ⟨fun s a => rfl, blockOf_toNat, contains_iff, fun r b hempty => ?_, lookupBlock_iff, fun table m b => ?_⟩
  · rw [Bool.eq_false_iff, ne_eq, contains_iff]
    rintro ⟨-, hbase, hlimit⟩
    omega
  · rw [DirtyMap.mem_seed, or_comm]

end Sys2Proof.Machine
end

section
/-! The bytes of a transaction on the way from the master to memory and to the capture point (R41, R42, R49, R50, R65,
R66, R108). -/

namespace Sys2Proof.Machine

/-! ### Addresses and low bits -/

/-- Clearing the lowest `n` bits rounds down to a multiple of `2 ^ n`. -/
theorem toNat_and_not_lowOnes {w : Nat} (a : BitVec w) (n : Nat) :
    (a &&& ~~~(BitVec.ofNat w (2 ^ n - 1))).toNat = a.toNat / 2 ^ n * 2 ^ n := by
  apply Nat.eq_of_testBit_eq
  intro i
  rw [BitVec.testBit_toNat, Nat.testBit_mul_two_pow, Nat.testBit_div_two_pow, BitVec.testBit_toNat,
    BitVec.getLsbD_and, BitVec.getLsbD_not, BitVec.getLsbD_ofNat, Nat.testBit_two_pow_sub_one]
  by_cases hi : i < w
  · by_cases hn : i < n
    · simp [hi, hn, Nat.not_le_of_lt hn]
    · simp [hi, hn, Nat.le_of_not_lt hn, Nat.sub_add_cancel (Nat.le_of_not_lt hn)]
  · simp only [hi, decide_false, Bool.false_and, Bool.and_false]
    by_cases hn : n ≤ i
    · simp [hn, Nat.sub_add_cancel hn, BitVec.getLsbD_of_ge a i (Nat.le_of_not_lt hi)]
    · simp [hn]

theorem wordAddress_toNat (a : Addr) : (wordAddress a).toNat = a.toNat / 4 * 4 := toNat_and_not_lowOnes a 2

theorem lineAddress_toNat (a : Addr) : (lineAddress a).toNat = a.toNat / 16 * 16 := toNat_and_not_lowOnes a 4

theorem wordOffset_eq (a : Addr) : wordOffset a = a.toNat % 16 := by
  rw [wordOffset, BitVec.toNat_and]
  exact Nat.and_two_pow_sub_one_eq_mod a.toNat 4

/-- The low ones keep every bit of a narrower word. -/
theorem setWidth_and_lowOnes {m w : Nat} (a : BitVec m) :
    a.setWidth w &&& BitVec.ofNat w (2 ^ m - 1) = a.setWidth w := by
  apply BitVec.eq_of_getLsbD_eq
  intro i hi
  rw [BitVec.getLsbD_and, BitVec.getLsbD_ofNat, Nat.testBit_two_pow_sub_one, BitVec.getLsbD_setWidth]
  by_cases hm : i < m
  · simp [hi, hm]
  · simp [BitVec.getLsbD_of_ge a i (Nat.le_of_not_lt hm)]

/-! ### A word write in its line -/

/-- A captured word write's mask stands at the word's offset (R49). -/
theorem getLsbD_captureMask_word (a : Addr) (m : BitVec 4) (d : Word) (k : Nat) (hk : k < 16) :
    (captureMask (recordOf (.wordWrite a m d))).getLsbD k =
      (decide (wordOffset (wordAddress a) ≤ k ∧ k < wordOffset (wordAddress a) + 4) &&
        m.getLsbD (k - wordOffset (wordAddress a))) := by
  have hmask : captureMask (recordOf (.wordWrite a m d)) = m.setWidth 16 <<< wordOffset (wordAddress a) := by
    rw [← setWidth_and_lowOnes m]
    rfl
  rw [hmask, BitVec.getLsbD_shiftLeft, BitVec.getLsbD_setWidth]
  generalize wordOffset (wordAddress a) = o
  by_cases hin : o ≤ k ∧ k < o + 4
  · simp [hk, hin, Nat.not_lt_of_le hin.1]
    omega
  · by_cases ho : k < o
    · simp [ho, hin]
    · simp [hin, BitVec.getLsbD_of_ge m (k - o) (by omega)]

/-- Its bytes stand at the word's offset, with 0 in the other twelve (R49). -/
theorem lineByte_captureData_word (a : Addr) (m : BitVec 4) (d : Word) (k : Nat) (hk : k < 16) :
    lineByte (captureData (recordOf (.wordWrite a m d))) k =
      if wordOffset (wordAddress a) ≤ k ∧ k < wordOffset (wordAddress a) + 4
      then d.extractLsb' (8 * (k - wordOffset (wordAddress a))) 8 else 0 := by
  have hdata : captureData (recordOf (.wordWrite a m d)) = d.setWidth 128 <<< (8 * wordOffset (wordAddress a)) := by
    rw [← setWidth_and_lowOnes d]
    rfl
  rw [hdata]
  generalize wordOffset (wordAddress a) = o
  apply BitVec.eq_of_getLsbD_eq
  intro j hj
  rw [lineByte, BitVec.getLsbD_extractLsb', BitVec.getLsbD_shiftLeft, BitVec.getLsbD_setWidth]
  have hbit : 8 * k + j < 128 := by omega
  split
  · rename_i hin
    have hge : ¬8 * k + j < 8 * o := by omega
    have hlt : 8 * k + j - 8 * o < 128 := by omega
    have hat : 8 * k + j - 8 * o = 8 * (k - o) + j := by omega
    rw [BitVec.getLsbD_extractLsb', ← hat]
    simp [hj, hbit, hge, hlt]
  · rename_i hout
    by_cases ho : 8 * k + j < 8 * o
    · simp [ho]
    · simp [BitVec.getLsbD_of_ge d (8 * k + j - 8 * o) (by omega)]

/-! ### The memory-side bus -/

theorem mem_beats {t : MemTransaction} {i : Nat} {b : MemBeat} (h : t.drive.beats[i]? = some b) : b = t.beat i := by
  rw [MemTransaction.drive, List.getElem?_map, Option.map_eq_some_iff] at h
  obtain ⟨j, hj, rfl⟩ := h
  obtain ⟨hlt, rfl⟩ := List.getElem?_eq_some_iff.mp hj
  rw [List.getElem_range]

/-- Byte `k` of word `i` of a line is byte `4i + k` of the line (log 19). -/
theorem extractLsb'_lineWord (l : Line) (i k : Nat) (hk : k < 4) :
    (lineWord l i).extractLsb' (8 * k) 8 = lineByte l (4 * i + k) := by
  apply BitVec.eq_of_getLsbD_eq
  intro j hj
  rw [lineWord, lineByte, BitVec.getLsbD_extractLsb', BitVec.getLsbD_extractLsb', BitVec.getLsbD_extractLsb',
    show 8 * (4 * i + k) + j = 32 * i + (8 * k + j) by omega, decide_eq_true (show 8 * k + j < 32 by omega),
    Bool.true_and]

theorem drive_busy {p : MemoryPort} {t : MemTransaction} {fate : AnswerFate} (h : p.phase = .busy t fate) :
    p.drive = some t.drive := by
  simp [MemoryPort.drive, h]

theorem drive_notBusy {p : MemoryPort} (h : ∀ t fate, p.phase ≠ .busy t fate) : p.drive = none := by
  unfold MemoryPort.drive
  split
  · exact absurd ‹_› (h _ _)
  · rfl
  · rfl

/-- What the memory transaction keeps of the record (R42, R65). -/
theorem memTransactionOf_keeps (t : Transaction) :
    (t.kind = .wordRead → (memTransactionOf t).mask = 0xF) ∧
    (t.kind = .lineRead → (memTransactionOf t).mask = 0xFFFF) ∧
    (t.kind.isWrite = true → (memTransactionOf t).mask = t.mask ∧ (memTransactionOf t).data = t.data) := by
  unfold memTransactionOf
  cases hk : t.kind <;> simp [TxnKind.isWrite]

/-- Settles O9: addresses, then the beats of the bus, then the captured line. -/
theorem capturedTransactionKeepsItsLine : Obligations.CapturedTransactionKeepsItsLine := by
  unfold Obligations.CapturedTransactionKeepsItsLine
  refine ⟨fun a m d lm ld => ⟨wordAddress_toNat a, lineAddress_toNat a, wordAddress_toNat a, lineAddress_toNat a,
      rfl, rfl, rfl, rfl, ?_, ?_, rfl, rfl, fun t => ⟨memTransactionOf_kind t, memTransactionOf_address t,
        memTransactionOf_owner t, memTransactionOf_keeps t⟩⟩,
    fun p => ⟨fun hnone => ?_, fun t fate hbusy => ?_⟩, fun a m d lm ld k hk => ?_⟩
  · exact BitVec.toNat_setWidth_of_le (by decide)
  · exact BitVec.toNat_setWidth_of_le (by decide)
  · rw [MemoryPort.mmstb, drive_notBusy hnone]
    exact ⟨rfl, rfl⟩
  · refine ⟨t.drive, drive_busy hbusy, by simp [MemoryPort.mmstb, drive_busy hbusy], rfl, ?_, ?_, ?_,
      fun i b hb => ?_⟩
    · cases hk : t.kind <;> simp [MemTransaction.drive, hk, TxnKind.isWrite]
    · cases hk : t.kind <;> simp [MemTransaction.drive, hk, TxnKind.isLine]
    · cases hk : t.kind <;> simp [MemTransaction.drive, hk, TxnKind.beats]
    · rw [mem_beats hb]
      refine ⟨fun k hk => ?_, fun hread => ?_, fun hwrite => ⟨lineWord t.data i, ?_, fun k hk => ?_⟩⟩
      · simp [MemTransaction.beat, hk]
      · rcases hread with h | h <;> simp [MemTransaction.beat, h, TxnKind.isWrite]
      · rcases hwrite with h | h <;> simp [MemTransaction.beat, h, TxnKind.isWrite]
      · exact extractLsb'_lineWord t.data i k hk
  · refine ⟨_, rfl, ?_, ?_, ?_, rfl, rfl, lineByte_maskedLine lm ld k hk⟩
    · have hword : (recordOf (.wordWrite a m d)).address = wordAddress a := rfl
      rw [hword, lineAddress_toNat, wordAddress_toNat]
      omega
    · rw [getLsbD_captureMask_word a m d k hk, wordOffset_eq]
      rfl
    · rw [lineByte_captureData_word a m d k hk, wordOffset_eq]
      rfl

/-! ### What the capture point records -/

/-- Where a captured write is accounted for (R50, R108): its block is dirty, its bytes stand in the tail, or it is
held. -/
def WriteRecorded (w : Transaction) (t : State) : Prop :=
  blockOf w.address ∈ t.dirty.blocks ∨
    (∃ e mask' data', t.journal.entries.getLast? = some e ∧ e.body = .write (lineAddress w.address) mask' data' ∧
      ∀ k, k < 16 → (captureMask w).getLsbD k = true →
        mask'.getLsbD k = true ∧ lineByte data' k = lineByte (captureData w) k) ∨
    t.sys.phase = .held w

theorem writeRecorded_markDirty (w : Transaction) (s : State) :
    WriteRecorded w (completeSystem w .ok 0 (markDirty (blockOf w.address) s)) :=
  .inl ((DirtyMap.mem_mark _ _ _).mpr (.inl rfl))

theorem writeRecorded_of_tail {w : Transaction} {t : State} {front : List Entry} {q : Seq} {sent : Bool}
    {mask' : Mask} {data' : Line}
    (htail : t.journal.entries = front ++ [⟨q, sent, .write (lineAddress w.address) mask' data'⟩])
    (hbytes : ∀ k, k < 16 → (captureMask w).getLsbD k = true →
      mask'.getLsbD k = true ∧ lineByte data' k = lineByte (captureData w) k) : WriteRecorded w t :=
  .inr (.inl ⟨⟨q, sent, .write (lineAddress w.address) mask' data'⟩, mask', data',
    (congrArg List.getLast? htail).trans List.getLast?_concat, rfl, hbytes⟩)

theorem writeRecorded_appendWrite (w : Transaction) (s : State) :
    WriteRecorded w (completeSystem w .ok 0 (appendWrite w s)) := by
  refine writeRecorded_of_tail (front := s.journal.entries) rfl fun k hk hset => ⟨hset, ?_⟩
  rw [lineByte_maskedLine _ _ k hk, if_pos hset]

theorem writeRecorded_mergeWrite {w : Transaction} {s : State} (h : s.mayMerge (lineAddress w.address) = true) :
    WriteRecorded w (completeSystem w .ok 0 (mergeWrite w s)) := by
  obtain ⟨⟨q, sent, body⟩, m, d, hlast, hbody, -⟩ := (mayMerge_iff s _).mp h
  obtain rfl : body = .write (lineAddress w.address) m d := hbody
  obtain ⟨front, hfront⟩ := List.getLast?_eq_some_iff.mp hlast
  obtain ⟨-, hfold⟩ := mergeFoldsIntoUnsentTail
  obtain ⟨data', hmerged, hbytes⟩ := hfold s.journal front q sent _ m (captureMask w) d (captureData w) hfront
  refine writeRecorded_of_tail (congrArg Journal.entries hmerged) fun k hk hset => ⟨by simp [hset], ?_⟩
  rw [hbytes k hk, if_pos hset]

/-- Every case of R50 accounts for the write. -/
theorem writeRecorded_capture (w : Transaction) (s : State) : WriteRecorded w (capture w s) := by
  by_cases htracking : s.mirror.state = .tracking
  · rw [capture_tracking w s htracking]
    exact writeRecorded_markDirty w s
  cases hmerge : s.mayMerge (lineAddress w.address) with
  | true =>
    rw [capture_merge w s htracking hmerge]
    exact writeRecorded_mergeWrite hmerge
  | false =>
    by_cases hroom : (s.control.pace = .stall ∧ s.journal.entries.length < s.cfg.highWatermark.toNat) ∨
        (s.control.pace = .track ∧ s.journal.entries.length < 512)
    · rw [capture_append w s htracking hmerge hroom]
      exact writeRecorded_appendWrite w s
    · rw [not_or, not_and, not_and, not_lt, not_lt] at hroom
      obtain ⟨hstall, htrack⟩ := hroom
      cases hpace : s.control.pace with
      | stall =>
        rw [capture_hold w s htracking hmerge hpace (hstall hpace)]
        exact .inr (.inr rfl)
      | track =>
        rw [capture_full w s htracking hmerge hpace (htrack hpace), ← completeSystem_examineCopy]
        exact .inl (by simp [DirtyMap.mem_mark])

/-- Settles O60. -/
theorem capturedWriteIsAccountedFor : Obligations.CapturedWriteIsAccountedFor := by
  unfold Obligations.CapturedWriteIsAccountedFor
  intro m w oks data s hoks hbusy howner hphase hwrite hrole hstate hmirrored
  exact ⟨_, exec_systemMemoryAnswer_capture data hoks hbusy howner hphase hwrite hrole hmirrored hstate,
    writeRecorded_capture { w with lookup := some true } { s with mem := s.mem.answered }⟩

end Sys2Proof.Machine
end

section
/-! Configuration writes (R45, R47, R52, R120, R140, R184). -/

namespace Sys2Proof.Machine

/-! ### Served commands -/

/-- A served command comes to what it makes of the port at the OPCODE byte of its own transaction (R181). -/
theorem whenServed_of_eq {f : State → State} {s t : State} (hp : s.porst = false) (hready : s.portReady)
    (h : f (selectPort (deselectPort s)) = t) : whenServed f s = t := by
  obtain ⟨hphase, hpending⟩ := hready
  rw [whenServed_eq f s hp hphase hpending, h]

/-- The examination looks at nothing of the service port. -/
theorem respond_examineCopy (r : Response) (s : State) : respond r (examineCopy s) = examineCopy (respond r s) := by
  have hsame : (respond r s).mayDecideCopy = s.mayDecideCopy := rfl
  unfold examineCopy
  rw [hsame]
  split <;> rfl

theorem acceptIf_accepts {ok : Bool} (f : State → State) (s : State) (h : ok = true) :
    acceptIf ok f s = respond .accepted (f s) := if_pos h

theorem acceptIf_refuses {ok : Bool} (f : State → State) (s : State) (h : ¬ok = true) :
    acceptIf ok f s = respond .refused s := if_neg h

/-! ### The region table -/

theorem roleDisabled_iff (s : State) : s.roleDisabled = true ↔
    (s.role = .origin ∧ s.mirror.state = .disabled) ∨ (s.role = .replica ∧ s.mirror.replica = .disabled) := by
  unfold State.roleDisabled
  cases s.role <;> simp

/-- A state of either role that is not DISABLED. -/
theorem not_roleDisabled {s : State} (h : (s.role = .origin ∧ s.mirror.state ≠ .disabled) ∨
    (s.role = .replica ∧ s.mirror.replica ≠ .disabled)) : ¬s.roleDisabled = true := by
  rw [roleDisabled_iff]
  rintro (⟨hrole, hstate⟩ | ⟨hrole, hstate⟩) <;> simp [hrole, hstate] at h

/-! ### The configuration registers -/

/-- A configuration write with its fields in range is accepted (R184). -/
theorem writeSettings_accepts {o : Option Settings} {c : Settings} (s : State) (h : o = some c) :
    writeSettings o s = respond .accepted { s with cfg := c } := by
  rw [h]
  rfl

theorem writeSettings_refuses {o : Option Settings} (s : State) (h : o = none) :
    writeSettings o s = respond .refused s := by
  rw [h]
  rfl

theorem writeCopySettings_accepts {o : Option Settings} {c : Settings} (s : State) (h : o = some c) :
    writeCopySettings o s = examineCopy (respond .accepted { s with cfg := c }) := by
  rw [h, ← respond_examineCopy]
  rfl

theorem writeCopySettings_refuses {o : Option Settings} (s : State) (h : o = none) :
    writeCopySettings o s = respond .refused s := by
  rw [h]
  rfl

/-- LINKCFG is refused out of OFF, and with a window out of range (R120). -/
theorem writeLinkcfgRegister_refuses {v : Word} {s : State} (h : ¬(s.link.state = .off ∧
    1 ≤ (v.extractLsb' 16 6).toNat ∧ (v.extractLsb' 16 6).toNat ≤ 32)) :
    writeLinkcfgRegister v s = respond .refused s := by
  unfold writeLinkcfgRegister
  split
  · rename_i hoff
    exact writeSettings_refuses s (if_neg fun hwindow => h ⟨hoff, hwindow⟩)
  · rfl

/-- Settles O48. -/
theorem configurationWritesAreJudged : Obligations.ConfigurationWritesAreJudged := by
  unfold Obligations.ConfigurationWritesAreJudged
  refine ⟨fun n half v s hp hready => ?_, fun v s hp hready => ?_, fun v s hp hready => ?_⟩
  all_goals have served : ∀ {f : State → State} {t : State}, f (selectPort (deselectPort s)) = t →
      (Host.Outcome.next (whenServed f s) : Host.Outcome State Fault Refusal) = .next t :=
    fun h => congrArg _ (whenServed_of_eq hp hready h)
  · refine ⟨fun h => ?_, fun h => served (acceptIf_refuses _ _ (not_roleDisabled (s := s) h))⟩
    have hdisabled := (roleDisabled_iff s).mpr h
    exact ⟨served (acceptIf_accepts _ _ hdisabled), served (acceptIf_accepts _ _ hdisabled)⟩
  · refine ⟨fun h => ?_, fun h => served (writeLinkcfgRegister_refuses h),
      fun h => served (writeSettings_accepts _ (if_pos h)), fun h => served (writeSettings_refuses _ (if_neg h)),
      fun h => served (writeSettings_accepts _ (if_pos h)), fun h => served (writeSettings_refuses _ (if_neg h))⟩
    exact served ((if_pos h.1).trans (writeSettings_accepts _ (if_pos h.2)))
  · exact ⟨fun h => served (writeCopySettings_accepts _ (if_pos h)),
      fun h => served (writeCopySettings_refuses _ (if_neg h)),
      fun h => served (writeCopySettings_accepts _ (if_pos h)),
      fun h => served (writeCopySettings_refuses _ (if_neg h))⟩

end Sys2Proof.Machine
end

section
/-! START of either role (R60, R99, R143, R159, R163). -/

namespace Sys2Proof.Machine

/-! ### START of the origin -/

theorem commandStart_origin {s : State} (hrole : s.role = .origin) (hstate : s.mirror.state = .disabled) :
    commandStart s = respond .accepted (startOrigin s) := by
  rw [commandStart, acceptIf_accepts _ _ ((roleDisabled_iff s).mpr (.inl ⟨hrole, hstate⟩)), hrole]

/-- An origin in TRACKING has nothing to lose with UP: its new session is the link's alone (R103, R159). -/
theorem renewSession_tracking {s : State} (hrole : s.role = .origin) (hstate : s.mirror.state = .tracking) :
    renewSession s = if s.link.state = .up then enterConnecting (emptyTransmitter (stopSession s)) else s := by
  have hclear : clearReplicaSession (stopSession s) = stopSession s := by simp [clearReplicaSession, hrole]
  simp [renewSession, leaveUp, hclear, transmitterLeavesUp, enterAfterUp, hrole, reportLeftUp, originLeftUp, hstate]

/-- An origin as START leaves it inside the part: the map seeded, in TRACKING (R99). -/
def seedOrigin (s : State) : State := { s with
  dirty := s.dirty.seed s.regions.toList
  mirror := { s.mirror with incomplete := false, state := .tracking } }

/-- In TRACKING the copy engine decides nothing (R82), and an UP link opens a new session (R99, R159). -/
theorem startOrigin_eq {s : State} (hrole : s.role = .origin) : startOrigin s =
    if s.link.state = .up then enterConnecting (emptyTransmitter (stopSession (seedOrigin s))) else seedOrigin s := by
  have hexamine : startOrigin s = renewSession (examineCopy (seedOrigin s)) := rfl
  have hrole' : (seedOrigin s).role = .origin := hrole
  have hstate : (seedOrigin s).mirror.state = .tracking := rfl
  rw [hexamine, examineCopy_of_ne _ (by simp [hstate]), renewSession_tracking hrole' hstate]
  rfl

/-! ### START of the replica -/

theorem commandStart_replica {s : State} (hrole : s.role = .replica) (hstate : s.mirror.replica = .disabled) :
    commandStart s = respond .accepted (startReplica s) := by
  rw [commandStart, acceptIf_accepts _ _ ((roleDisabled_iff s).mpr (.inr ⟨hrole, hstate⟩)), hrole]

theorem fenceWaiting_notAtMemory {s : State} (h : ∀ t, s.sys.phase ≠ .atMemory t) : fenceWaiting s = s := by
  unfold fenceWaiting
  split
  · exact absurd ‹_› (h _)
  · rfl

theorem fenceWaiting_notWaiting {s : State} {t : Transaction} (hphase : s.sys.phase = .atMemory t)
    (h : s.mem.systemRequest = none ∨ t.kind.isWrite = false) : fenceWaiting s = s := by
  rcases h with h | h <;> simp [fenceWaiting, hphase, h]

/-- A mirrored write that waits is fenced, its request withdrawn (R60, R75). -/
theorem fenceWaiting_mirrored {s : State} {t : Transaction} (hphase : s.sys.phase = .atMemory t)
    (hwaits : s.mem.systemRequest.isSome = true) (hwrite : t.kind.isWrite = true)
    (hmirrored : s.mirrored t.address = true) : fenceWaiting s =
      fenceWrite { t with lookup := some true } { s with mem := s.mem.withdrawSystem } := by
  simp [fenceWaiting, hphase, hwaits, hwrite, hmirrored]

/-- Any other write that waits keeps the new lookup (R60). -/
theorem fenceWaiting_unmirrored {s : State} {t : Transaction} (hphase : s.sys.phase = .atMemory t)
    (hwaits : s.mem.systemRequest.isSome = true) (hwrite : t.kind.isWrite = true)
    (hmirrored : s.mirrored t.address = false) : fenceWaiting s =
      { s with sys.phase := .atMemory { t with lookup := some false } } := by
  simp [fenceWaiting, hphase, hwaits, hwrite, hmirrored]

/-- A replica as START leaves it, before a waiting write is looked at (R163). -/
def openReplica (s : State) : State := { s with
  mirror.replica := .listening
  apply := { s.apply with fresh := true, coherent := false, fault := false, ackCount := 0, lastNaked := none } }

theorem startReplica_eq (s : State) : startReplica s = fenceWaiting (openReplica s) := rfl

theorem exec_start_replica {s t : State} (hp : s.porst = false) (hready : s.portReady) (hrole : s.role = .replica)
    (hstate : s.mirror.replica = .disabled)
    (h : fenceWaiting (openReplica (selectPort (deselectPort s))) = t) :
    exec .start s = .next (respond .accepted t) := by
  have hcommand : commandStart (selectPort (deselectPort s)) = respond .accepted t := by
    rw [commandStart_replica (s := selectPort (deselectPort s)) hrole hstate, startReplica_eq, h]
  exact congrArg Host.Outcome.next (whenServed_of_eq hp hready hcommand)

/-- Settles O36. -/
theorem startSeedsOriginOrOpensReplica : Obligations.StartSeedsOriginOrOpensReplica := by
  unfold Obligations.StartSeedsOriginOrOpensReplica
  refine ⟨fun s hp hready hrole hstate => ?_, fun s hp hready hrole hstate => ⟨_, rfl, fun hphase => ?_,
    fun t hphase hwaits hwrite hmirrored => ?_, fun t hphase hwaits hwrite hmirrored => ?_, fun t hphase hother => ?_⟩⟩
  · have hrole' : (selectPort (deselectPort s)).role = .origin := hrole
    have hexec : exec .start s = .next (respond .accepted (startOrigin (selectPort (deselectPort s)))) :=
      congrArg Host.Outcome.next (whenServed_of_eq hp hready (commandStart_origin hrole' hstate))
    rw [hexec, startOrigin_eq hrole']
    refine ⟨fun hup => ?_, fun hup => ?_⟩
    · rw [if_neg (show ¬(selectPort (deselectPort s)).link.state = .up from hup)]
      rfl
    · rw [if_pos (show (selectPort (deselectPort s)).link.state = .up from hup), enterConnecting_eq]
      rfl
  · exact exec_start_replica hp hready hrole hstate (fenceWaiting_notAtMemory hphase)
  · exact exec_start_replica hp hready hrole hstate (fenceWaiting_mirrored hphase hwaits hwrite hmirrored)
  · exact exec_start_replica hp hready hrole hstate (fenceWaiting_unmirrored hphase hwaits hwrite hmirrored)
  · exact exec_start_replica hp hready hrole hstate (fenceWaiting_notWaiting hphase hother)

end Sys2Proof.Machine
end

section
/-! SOFT_RESET, PORST and the ignored transaction (R44, R75 to R77, R111, R181, R188, R193). -/

namespace Sys2Proof.Machine

/-! ### Transactions of the service port -/

/-- A command of the service port is served (R181). -/
theorem exec_serviceCommand {c : Instr} (h : c.isServiceCommand = true) :
    ∃ f : State → State, ∀ s, exec c s = .next (whenServed f s) := by
  cases c <;> simp only [Instr.isServiceCommand, Bool.false_eq_true] at h
  all_goals exact ⟨_, fun _ => rfl⟩

/-! ### SOFT_RESET -/

theorem exec_softResetTaken {s : State} (pins : RequestPins) (selected : Bool) (hp : s.porst = false) :
    exec (.softResetTaken pins selected) s = .next (takeSoftReset pins selected s) := by
  simp [exec, execSoftResetTaken, unlessPorst, hp]

theorem takeSoftReset_portReady (pins : RequestPins) (selected : Bool) {s : State} (hr : s.sp.resetPending = true) :
    (takeSoftReset pins selected s).portReady := by
  refine ⟨?_, takeSoftReset_resetPending pins selected s⟩
  cases selected <;> simp [takeSoftReset, hr]

/-- SOFT_RESET ends the system port's transaction with the master when it is held, and stops its timer (R44). -/
theorem softResetPort_eq (p : SystemPort) : softResetPort p = ⟨(match p.phase with
    | .held t => .complete t .ok 0
    | other => other), none⟩ := by
  unfold softResetPort
  cases p.phase <;> rfl

theorem takeSoftReset_spdo (pins : RequestPins) {s : State} (hp : s.porst = false) (hr : s.sp.resetPending = true) :
    (takeSoftReset pins true s).spdo = some (List.replicate 8 false) := by
  obtain ⟨hspdo, -⟩ := takeSoftReset_done pins s hr
  have hp' : (takeSoftReset pins true s).porst = false := by simp [hp]
  rw [State.spdo, hp', hspdo]
  decide

/-! ### PORST -/

/-- Under PORST the outputs are low, TXD rests at mark and SPDO is undriven (R193). -/
theorem porstAssert_outputs (s : State) : (porstAssert s).irq = false ∧ (porstAssert s).sync = false ∧
    (porstAssert s).mirror.drained = false ∧ (porstAssert s).tx.line = .gap ∧
    (∀ k, (porstAssert s).tx.line.level k = some true) ∧ (porstAssert s).spdo = none := by
  refine ⟨by simp [State.irq, porstAssert, State.reset], ?_, rfl, rfl, fun _ => rfl, rfl⟩
  unfold State.sync
  cases (porstAssert s).role <;> rfl

/-- Settles O43: SOFT_RESET scheduled and taken, PORST, and the transaction ignored after it. -/
theorem softResetAndPorstResetThePart : Obligations.SoftResetAndPorstResetThePart := by
  unfold Obligations.SoftResetAndPorstResetThePart
  refine ⟨⟨fun s hp hready => ?_, fun c selected s hp hphase hr hc => ?_, fun pins selected s hp hr => ?_,
    fun pins s hp hr => ?_⟩, ⟨fun s => ?_, fun r m d selected s hp => ?_⟩, fun c s hp hphase hc => ?_⟩
  · exact congrArg Host.Outcome.next (whenServed_of_eq hp hready rfl)
  · obtain ⟨f, hf⟩ := exec_serviceCommand hc
    refine ⟨_, exec_softResetTaken _ selected hp, takeSoftReset_portReady _ selected hr, ?_⟩
    rw [hf, hf, whenServed_pending f selected s hp hphase hr]
  · rw [exec_softResetTaken pins selected hp, takeSoftReset, if_pos hr, softResetPort_eq, hp]
    rfl
  · obtain ⟨-, hclock⟩ := takeSoftReset_done pins s hr
    exact ⟨_, exec_softResetTaken pins true hp, takeSoftReset_spdo pins hp hr, hclock⟩
  · exact ⟨_, rfl, rfl, porstAssert_outputs s⟩
  · simp [exec, execPorstDeassert, porstDeassert, hp]
  · obtain ⟨f, hf⟩ := exec_serviceCommand hc
    rw [hf, whenServed_ignored f s hp hphase]
    rfl

end Sys2Proof.Machine
end

section
/-! The answers of apply writes (R67, R74, R76, R170, R173, R177, R178). -/

namespace Sys2Proof.Machine

/-! ### An answer on its way to the apply engine -/

theorem exec_applyWriteAnswer_passed {q : MemTransaction} {a : Seq} {i : Fin 64} {s : State} (beats : List MemAnswer)
    (hbusy : s.mem.phase = .busy q .passed) (howner : q.owner = .apply a i) :
    exec (.applyWriteAnswer beats) s = .next (applyAnswer (wholeAnswer beats) { s with mem.phase := .recovery }) := by
  simp [exec, execApplyWriteAnswer, applyWriteAnswer, hbusy, howner, MemoryPort.answered]

theorem exec_applyWriteAnswer_dropped {q : MemTransaction} {a : Seq} {i : Fin 64} {s : State} (beats : List MemAnswer)
    (hbusy : s.mem.phase = .busy q .dropped) (howner : q.owner = .apply a i) :
    exec (.applyWriteAnswer beats) s = .next { s with mem.phase := .recovery } := by
  simp [exec, execApplyWriteAnswer, applyWriteAnswer, hbusy, howner, MemoryPort.answered]

/-! ### What an answer says of memory -/

/-- The part once the engine has noted whether its write failed (R177), before it advances or ends. -/
def noteWrite (answer : MemAnswer) (s : State) : State := if answer = .error then applyFault s else s

/-- An ERROR is counted, sets the apply-fault flag outside DISABLED and clears the coherent flag; an OK does nothing
(R177). -/
theorem noteWrite_eq (answer : MemAnswer) (s : State) : noteWrite answer s = { s with
    counters := if answer = .error then s.counted .applyFaults else s.counters
    apply := { s.apply with
      coherent := if answer = .error then false else s.apply.coherent
      fault := if answer = .error ∧ s.mirror.replica ≠ .disabled then true else s.apply.fault } } := by
  cases answer with
  | ok => rfl
  | error =>
    by_cases hdisabled : s.mirror.replica = .disabled <;>
      simp [noteWrite, applyFault, bump, State.counted, hdisabled]

/-- What noting an answer leaves unchanged of the parts that the rest of its taking reads. -/
theorem noteWrite_keeps (answer : MemAnswer) (s : State) :
    (noteWrite answer s).mem = s.mem ∧ (noteWrite answer s).link = s.link ∧ (noteWrite answer s).cfg = s.cfg ∧
    (noteWrite answer s).tx = s.tx ∧ (noteWrite answer s).rx = s.rx ∧
    (noteWrite answer s).apply.nextLine = s.apply.nextLine ∧ (noteWrite answer s).apply.expected = s.apply.expected ∧
    (noteWrite answer s).apply.ackCount = s.apply.ackCount := by
  rw [noteWrite_eq]
  exact ⟨rfl, rfl, rfl, rfl, rfl, rfl, rfl, rfl⟩

theorem applyAnswer_writing (answer : MemAnswer) {s : State} (h : s.apply.phase = .writing) :
    applyAnswer answer s = advanceApply (noteWrite answer s) := by
  rw [applyAnswer, h]
  rfl

theorem applyAnswer_abandoning (answer : MemAnswer) {s : State} (h : s.apply.phase = .abandoning) :
    applyAnswer answer s = releaseSlot { noteWrite answer s with apply.phase := .idle } := by
  rw [applyAnswer, h]
  rfl

/-! ### The frame in hand goes on, or its apply ends -/

/-- Before line 63 the request for the block's next line waits at a port in RECOVERY (R69, R170). -/
theorem advanceApply_nextLine {f : Frame} {raw : List Byte} {rest : List Slot} {number : Block} {lines : Vector Line 64}
    {n : Fin 64} {s : State} (hslots : s.rx.slots = ⟨f, raw⟩ :: rest) (hbody : f.body = .block number lines)
    (hn : n.val = s.apply.nextLine.val + 1) (hport : s.mem.phase = .recovery) : advanceApply s = { s with
      apply.nextLine := n
      mem.engineRequest := some ⟨.lineWrite, BitVec.ofNat 26 (number.toNat * 1024 + n.val * 16), 0xFFFF, lines[n],
        .apply f.seq n⟩ } := by
  obtain ⟨session, seq, body⟩ := f
  obtain rfl : body = .block number lines := hbody
  have hlt : s.apply.nextLine.val < 63 := by omega
  have hnext : s.apply.nextLine + 1 = n := by
    apply Fin.ext
    rw [Fin.val_add_one_of_lt (by simp [Fin.lt_def]; omega), hn]
  simp [advanceApply, hslots, hlt, hnext, presentBlockLine, presentWrite, MemoryPort.requestEngine, hport]

/-- A WRITE's one line, and line 63 of a BLOCK, are the last of their apply (R169, R173). -/
theorem advanceApply_lastLine {f : Frame} {raw : List Byte} {rest : List Slot} {s : State}
    (hslots : s.rx.slots = ⟨f, raw⟩ :: rest) (hlast : (∃ line mask data, f.body = .write line mask data) ∨
      (s.apply.nextLine = 63 ∧ ∃ number lines, f.body = .block number lines)) : advanceApply s = applyEnd s := by
  obtain ⟨session, seq, body⟩ := f
  obtain ⟨line, mask, data, hbody⟩ | ⟨h63, number, lines, hbody⟩ := hlast
  · obtain rfl : body = .write line mask data := hbody
    simp [advanceApply, hslots]
  · obtain rfl : body = .block number lines := hbody
    simp [advanceApply, hslots, h63]

theorem releaseSlot_eq {c : Slot} {rest : List Slot} {s : State} (hslots : s.rx.slots = c :: rest) :
    releaseSlot s = { s with rx.slots := rest } := by
  simp [releaseSlot, hslots]

/-- The end of an apply short of the ack-every count, with frames left to take, offers no ACK (R173). -/
theorem applyEnd_silent {c : Slot} {rest : List Slot} {s : State} (hslots : s.rx.slots = c :: rest)
    (hcount : s.apply.ackCount + 1 < s.cfg.ackEvery.toNat) (hrest : rest ≠ []) : applyEnd s = { s with
      rx.slots := rest
      apply := { s.apply with
        phase := .idle, expected := s.apply.expected + 1, fresh := false, ackCount := s.apply.ackCount + 1 } } := by
  simp [applyEnd, releaseSlot, hslots, hrest, Nat.not_le_of_lt hcount]

/-- The end of an apply at the ack-every count, or with no frame left, acknowledges the frame just applied (R173, R174). -/
theorem applyEnd_acknowledges {c : Slot} {rest : List Slot} {s : State} (hslots : s.rx.slots = c :: rest)
    (hack : s.cfg.ackEvery.toNat ≤ s.apply.ackCount + 1 ∨ rest = []) (hlink : s.link.state ≠ .off) :
    applyEnd s = { s with
      rx.slots := rest
      apply := { s.apply with
        phase := .idle, expected := s.apply.expected + 1, fresh := false, ackCount := 0
        lastAckSent := s.apply.expected }
      tx.slot := offeredSlot s.tx.slot ⟨s.link.session, s.apply.expected, .ack s.apply.fault⟩ } := by
  simp [applyEnd, releaseSlot, hslots, hack, offerAck, offerControl, hlink]

/-- Settles O35: the answer is dropped at the port, or noted, and the apply then goes on, ends or is abandoned. -/
theorem applyAnswerAdvancesOrEnds : Obligations.ApplyAnswerAdvancesOrEnds := by
  unfold Obligations.ApplyAnswerAdvancesOrEnds
  refine ⟨fun q a i beats s hbusy howner => exec_applyWriteAnswer_dropped beats hbusy howner,
    fun f raw rest q a i beats answer s hanswer hbusy howner hslots => ?_⟩
  have hpassed : exec (.applyWriteAnswer beats) s = .next (applyAnswer answer { s with mem.phase := .recovery }) := by
    rw [exec_applyWriteAnswer_passed beats hbusy howner, hanswer]
    rfl
  obtain ⟨hport, hlink, hcfg, htx, hrx, hline, hexpected, hcount⟩ :=
    noteWrite_keeps answer { s with mem.phase := .recovery }
  have hhead := (congrArg Receiver.slots hrx).trans hslots
  refine ⟨noteWrite answer { s with mem.phase := .recovery }, noteWrite_eq _ _, fun hwriting => ?_, fun habandoning => ?_⟩
  · rw [hpassed, applyAnswer_writing (s := { s with mem.phase := .recovery }) answer hwriting]
    refine ⟨fun number lines n hbody hn => ?_, fun hlast => ?_⟩
    · rw [advanceApply_nextLine hhead hbody (by rw [hline, hn]) (by rw [hport])]
    · rw [advanceApply_lastLine hhead (by rwa [hline])]
      refine ⟨fun hbelow hrest => ?_, fun hack hup => ?_⟩
      · rw [applyEnd_silent hhead (by rwa [hcount, hcfg]) hrest, hexpected, hcount]
      · rw [applyEnd_acknowledges hhead (by rwa [hcount, hcfg]) (by rwa [hlink]), hexpected, hlink, htx]
  · rw [hpassed, applyAnswer_abandoning (s := { s with mem.phase := .recovery }) answer habandoning]
    exact congrArg _ (releaseSlot_eq hhead)

end Sys2Proof.Machine
end

section
/-! The arbiter's decision and its policy (R66, R68, R69, R71). -/

namespace Sys2Proof.Machine

/-! ### The decision at memory's ready indication -/

theorem exec_memoryReady (s : State) : exec .memoryReady s = .next { s with mem := s.mem.ready s.control.arb } := rfl

/-- Only RECOVERY awaits the ready indication (R66). -/
theorem ready_of_ne {p : MemoryPort} (policy : ArbPolicy) (h : p.phase ≠ .recovery) : p.ready policy = p := by
  unfold MemoryPort.ready
  split
  · exact absurd ‹_› h
  · rfl

theorem ready_recovery {p : MemoryPort} (policy : ArbPolicy) (h : p.phase = .recovery) :
    p.ready policy = p.arbitrate policy := by
  rw [MemoryPort.ready, h]

theorem arbitrate_none {p : MemoryPort} (policy : ArbPolicy) (hsystem : p.systemRequest = none)
    (hengine : p.engineRequest = none) : p.arbitrate policy = { p with phase := .free } := by
  rw [MemoryPort.arbitrate, hsystem, hengine]

/-- The system port's request is granted alone, under SYSTEM_FIRST, or after a grant of the engine (R69). -/
theorem arbitrate_system {p : MemoryPort} {t : MemTransaction} {policy : ArbPolicy} (hsystem : p.systemRequest = some t)
    (hwins : p.engineRequest = none ∨ policy = .systemFirst ∨ p.lastGranted = .engine) : p.arbitrate policy =
      { p with phase := .busy t .passed, systemRequest := none, lastGranted := .system } := by
  unfold MemoryPort.arbitrate
  cases hengine : p.engineRequest with
  | none => simp [hsystem, MemoryPort.grant]
  | some u =>
    have hpolicy : policy = .systemFirst ∨ p.lastGranted = .engine := hwins.resolve_left (by simp [hengine])
    simp [hsystem, hpolicy, MemoryPort.grant]

/-- The engine's request is granted alone, or under ALTERNATE after a grant of the system port (R69). -/
theorem arbitrate_engine {p : MemoryPort} {u : MemTransaction} {policy : ArbPolicy} (hengine : p.engineRequest = some u)
    (hwins : p.systemRequest = none ∨ (policy = .alternate ∧ p.lastGranted = .system)) : p.arbitrate policy =
      { p with phase := .busy u .passed, engineRequest := none, lastGranted := .engine } := by
  unfold MemoryPort.arbitrate
  cases hsystem : p.systemRequest with
  | none => simp [hengine, MemoryPort.grant]
  | some t =>
    obtain ⟨hpolicy, hlast⟩ := hwins.resolve_left (by simp [hsystem])
    simp [hengine, hpolicy, hlast, MemoryPort.grant]

/-- Settles O7: outside RECOVERY the port is left alone, and in RECOVERY the decision has one outcome for each case. -/
theorem readyArbitratesWaitingRequests : Obligations.ReadyArbitratesWaitingRequests := by
  unfold Obligations.ReadyArbitratesWaitingRequests
  intro s
  rw [exec_memoryReady]
  refine ⟨fun hother => ?_, fun hrecovery => ?_⟩
  · rw [ready_of_ne _ hother]
  · rw [ready_recovery _ hrecovery]
    refine ⟨fun hsystem hengine => ?_, fun t hsystem hwins => ?_, fun u hengine hwins => ?_⟩
    · rw [arbitrate_none _ hsystem hengine]
    · rw [arbitrate_system hsystem hwins]
    · rw [arbitrate_engine hengine hwins]

/-! ### CONTROL.arb -/

theorem exec_controlArb (v : ArbPolicy) {s : State} (hp : s.porst = false) (hready : s.portReady) :
    exec (.controlArb v) s = .next { s with sp := s.answered .accepted, control.arb := v } :=
  congrArg Host.Outcome.next (whenServed_of_eq hp hready rfl)

theorem srstAssert_control (s : State) : (srstAssert s).control = s.control := by
  unfold srstAssert
  split
  · rfl
  · simp

/-- Settles O44. -/
theorem arbPolicyAppliesFromNextDecision : Obligations.ArbPolicyAppliesFromNextDecision := by
  unfold Obligations.ArbPolicyAppliesFromNextDecision
  refine ⟨fun v s hp hready => exec_controlArb v hp hready, fun v s t hp hready ht => ?_, rfl, fun s => ⟨_, rfl, rfl⟩,
    fun pins selected s hp hr => ⟨_, exec_softResetTaken pins selected hp, ?_⟩,
    fun s => ⟨_, _, rfl, rfl, congrArg Control.arb (srstAssert_control s), rfl⟩, fun s => ⟨_, rfl, ?_⟩⟩
  · rw [exec_controlArb v hp hready] at ht
    cases ht
    exact ⟨rfl, exec_memoryReady _⟩
  · rw [takeSoftReset, if_pos hr]
    rfl
  · obtain ⟨-, harb, -⟩ := readControl_bits s
    exact harb

end Sys2Proof.Machine
end

section
/-! PORST's hold on the part (R76, R193). -/

namespace Sys2Proof.Machine

/-- The commands that the part follows while PORST is asserted: memory's answers and its ready indication, the level
of SRST, and PORST itself (R76, R193, log 24). -/
def followedUnderPorst : Instr → Bool
  | .systemMemoryAnswer .. | .lineReadAnswer .. | .applyWriteAnswer _ | .memoryReady | .srstAssert | .srstDeassert
  | .porstAssert | .porstDeassert .. => true
  | _ => false

theorem unlessPorst_asserted (f : State → State) {s : State} (h : s.porst = true) : unlessPorst f s = s := if_pos h

/-- Under PORST the service port ignores SPSEL (R181). -/
theorem whenServed_asserted (f : State → State) {s : State} (h : s.porst = true) : whenServed f s = s := if_pos h

/-- Every other event that is no transaction of the service port is held under PORST (R193). -/
theorem exec_heldEvent {c : Instr} (hservice : c.isServiceCommand = false) (hfollowed : followedUnderPorst c = false) :
    ∃ f : State → State, ∀ s, exec c s = .next (unlessPorst f s) := by
  cases c <;> simp only [Instr.isServiceCommand, followedUnderPorst, Bool.true_eq_false] at hservice hfollowed
  all_goals exact ⟨_, fun _ => rfl⟩

/-- What is not followed under PORST leaves the part as it is. -/
theorem exec_porstAsserted {c : Instr} {s : State} (hp : s.porst = true) (hfollowed : followedUnderPorst c = false) :
    exec c s = .next s := by
  cases hservice : c.isServiceCommand with
  | true =>
    obtain ⟨f, hf⟩ := exec_serviceCommand hservice
    rw [hf, whenServed_asserted f hp]
  | false =>
    obtain ⟨f, hf⟩ := exec_heldEvent hservice hfollowed
    rw [hf, unlessPorst_asserted f hp]

/-- Settles O4: a command other than those excluded is held, whether the service port's or an event. -/
theorem porstHoldsThePart : Obligations.PorstHoldsThePart := by
  unfold Obligations.PorstHoldsThePart
  intro c s hp hsystem hread hwrite hready hassert hdeassert hporst hporstEnd
  refine exec_porstAsserted hp ?_
  unfold followedUnderPorst
  split
  · exact absurd rfl (hsystem _ _)
  · exact absurd rfl (hread _ _)
  · exact absurd rfl (hwrite _)
  · exact absurd rfl hready
  · exact absurd rfl hassert
  · exact absurd rfl hdeassert
  · exact absurd rfl hporst
  · exact absurd rfl (hporstEnd _ _ _)
  · rfl

end Sys2Proof.Machine
end

section
/-! What a transaction of the service port does to the part, said once: the steps it is made of, with their guards
(R181 to R188). What each of them keeps, every command of the service port keeps. -/

namespace Sys2Proof.Machine

/-- One step of a service-port transaction: a move of the port alone, a SOFT_RESET that waited for the end of the
transaction before, or the effect of a command or a register write that is not refused. -/
inductive ServedStep : State → State → Prop
  | port (s : State) (p : ServicePort) : ServedStep s { s with sp := p }
  | softReset (s : State) (pins : RequestPins) (selected : Bool) : ServedStep s (takeSoftReset pins selected s)
  | startOrigin (s : State) (hrole : s.role = .origin) (hdisabled : s.roleDisabled = true) :
      ServedStep s (startOrigin s)
  | startReplica (s : State) (hrole : s.role = .replica) (hdisabled : s.roleDisabled = true) :
      ServedStep s (startReplica s)
  | stopOrigin (s : State) (hrole : s.role = .origin) (hactive : s.roleDisabled = false) : ServedStep s (stopOrigin s)
  | stopReplica (s : State) (hrole : s.role = .replica) (hactive : s.roleDisabled = false) :
      ServedStep s (stopReplica s)
  | reseed (s : State) (hactive : s.originActive = true) : ServedStep s (reseed s)
  | pause (s : State) (hactive : s.originActive = true) : ServedStep s { s with copy.paused := true }
  | resync (s : State) (hactive : s.originActive = true) : ServedStep s (examineCopy { s with copy.paused := false })
  | mark (s : State) (hmay : s.mayMark = true) : ServedStep s (acceptMark false s)
  | lowerDrained (s : State) : ServedStep s (lowerDrained s)
  | drain (s : State) (hmay : s.mayDrain = true) : ServedStep s (acceptDrain (lowerDrained s))
  | linkReset (s : State) (hlink : (s.link.state == .up || s.link.state == .connecting) = true) :
      ServedStep s (resetLink s)
  | clearCounters (s : State) : ServedStep s { s with counters := Vector.replicate 13 0 }
  | merge (s : State) (v : Bool) : ServedStep s (setMerge v s)
  | arb (s : State) (v : ArbPolicy) : ServedStep s (setArb v s)
  | pace (s : State) (v : PacePolicy) : ServedStep s (setPace v s)
  | linkEnable (s : State) (v : Bool) : ServedStep s (setEnable v s)
  | causes (s : State) (v : BitVec 13) : ServedStep s { s with causes := s.causes &&& ~~~v }
  | enables (s : State) (v : BitVec 13) : ServedStep s { s with enables := v }
  | linkcfg (s : State) (v : Word) (c : Settings) (hoff : s.link.state = .off) (hc : writeLinkcfg v s.cfg = some c) :
      ServedStep s { s with cfg := c }
  | ackcfg (s : State) (v : Word) (c : Settings) (hc : writeAckcfg v s.cfg = some c) : ServedStep s { s with cfg := c }
  | keepcfg (s : State) (v : Word) (c : Settings) (hc : writeKeepcfg v s.cfg = some c) :
      ServedStep s { s with cfg := c }
  | pacecfg (s : State) (v : Word) (c : Settings) (hc : writePacecfg v s.cfg = some c) :
      ServedStep s (examineCopy { s with cfg := c })
  | copycfg (s : State) (v : Word) (c : Settings) (hc : writeCopycfg v s.cfg = some c) :
      ServedStep s (examineCopy { s with cfg := c })
  | region (s : State) (n : Fin 8) (half : RegionHalf) (v : Word) (hdisabled : s.roleDisabled = true) :
      ServedStep s { s with regions := s.regions.set n (writeRegion half v s.regions[n]) }

/-- A run of such steps. -/
abbrev Served : State → State → Prop := Relation.ReflTransGen ServedStep

/-- What composes and holds of each step holds of a run. -/
theorem Served.keeps {R : State → State → Prop} (hrefl : ∀ s, R s s) (htrans : ∀ {s t u}, R s t → R t u → R s u)
    (hstep : ∀ {s t}, ServedStep s t → R s t) {s t : State} (h : Served s t) : R s t := by
  induction h with
  | refl => exact hrefl s
  | tail _ hlast ih => exact htrans ih (hstep hlast)

theorem served_port (s : State) (p : ServicePort) : Served s { s with sp := p } := .single (.port s p)

theorem served_respond {s t : State} (r : Response) (h : Served s t) : Served s (respond r t) := h.tail (.port t _)

theorem served_acceptIf {ok : Bool} {f : State → State} {s : State} (h : ok = true → Served s (f s)) :
    Served s (acceptIf ok f s) := by
  unfold acceptIf
  split
  · exact served_respond _ (h ‹_›)
  · exact served_respond _ .refl

/-! ### Commands -/

theorem served_commandStart (s : State) : Served s (commandStart s) := by
  refine served_acceptIf fun hdisabled => ?_
  cases hrole : s.role with
  | origin => simpa only [hrole] using Relation.ReflTransGen.single (ServedStep.startOrigin s hrole hdisabled)
  | replica => simpa only [hrole] using Relation.ReflTransGen.single (ServedStep.startReplica s hrole hdisabled)

theorem served_commandStop (s : State) : Served s (commandStop s) := by
  refine served_acceptIf fun hactive => ?_
  have hactive : s.roleDisabled = false := by simpa using hactive
  cases hrole : s.role with
  | origin => simpa only [hrole] using Relation.ReflTransGen.single (ServedStep.stopOrigin s hrole hactive)
  | replica => simpa only [hrole] using Relation.ReflTransGen.single (ServedStep.stopReplica s hrole hactive)

theorem served_commandReseed (s : State) : Served s (commandReseed s) :=
  served_acceptIf fun h => .single (.reseed s h)

theorem served_commandPause (s : State) : Served s (commandPause s) := served_acceptIf fun h => .single (.pause s h)

theorem served_commandResync (s : State) : Served s (commandResync s) :=
  served_acceptIf fun h => .single (.resync s h)

theorem served_commandMark (s : State) : Served s (commandMark s) := served_acceptIf fun h => .single (.mark s h)

theorem served_commandDrain (s : State) : Served s (commandDrain s) := by
  unfold commandDrain
  dsimp only
  split
  · exact served_respond _ (.single (.drain s ‹_›))
  · split <;> exact served_respond _ (.single (.lowerDrained s))

theorem served_commandLinkReset (s : State) : Served s (commandLinkReset s) :=
  served_acceptIf fun h => .single (.linkReset s h)

theorem served_commandSoftReset (s : State) : Served s (commandSoftReset s) := served_port s _

theorem served_writeCommand (code : Byte) (s : State) : Served s (writeCommand code s) := by
  unfold writeCommand
  split; · exact served_commandStart s
  split; · exact served_commandStop s
  split; · exact served_commandReseed s
  split; · exact served_commandPause s
  split; · exact served_commandResync s
  split; · exact served_commandMark s
  split; · exact served_commandDrain s
  split; · exact served_commandLinkReset s
  split; · exact served_respond _ (.single (.clearCounters s))
  split; · exact served_commandSoftReset s
  exact served_respond _ .refl

/-! ### Register writes -/

theorem served_writeControl (v : Word) (s : State) : Served s (writeControl v s) :=
  served_respond _ ((((Relation.ReflTransGen.single (.merge s _)).tail (.arb _ _)).tail (.pace _ _)).tail
    (.linkEnable _ _))

theorem served_writeSettings {c : Option Settings} {s : State} (h : ∀ d, c = some d → ServedStep s { s with cfg := d }) :
    Served s (writeSettings c s) := by
  cases c with
  | none => exact served_respond _ .refl
  | some d => exact served_respond _ (.single (h d rfl))

theorem served_writeCopySettings {c : Option Settings} {s : State}
    (h : ∀ d, c = some d → ServedStep s (examineCopy { s with cfg := d })) : Served s (writeCopySettings c s) := by
  cases c with
  | none => exact served_respond _ .refl
  | some d => exact served_respond _ (.single (h d rfl))

theorem served_writeLinkcfgRegister (v : Word) (s : State) : Served s (writeLinkcfgRegister v s) := by
  unfold writeLinkcfgRegister
  split
  · exact served_writeSettings fun c => .linkcfg s v c ‹_›
  · exact served_respond _ .refl

theorem served_writeAckcfgRegister (v : Word) (s : State) : Served s (writeAckcfgRegister v s) :=
  served_writeSettings fun c => .ackcfg s v c

theorem served_writeKeepcfgRegister (v : Word) (s : State) : Served s (writeKeepcfgRegister v s) :=
  served_writeSettings fun c => .keepcfg s v c

theorem served_writePacecfgRegister (v : Word) (s : State) : Served s (writePacecfgRegister v s) :=
  served_writeCopySettings fun c => .pacecfg s v c

theorem served_writeCopycfgRegister (v : Word) (s : State) : Served s (writeCopycfgRegister v s) :=
  served_writeCopySettings fun c => .copycfg s v c

theorem served_writeRegionRegister (n : Fin 8) (half : RegionHalf) (v : Word) (s : State) :
    Served s (writeRegionRegister n half v s) :=
  served_acceptIf fun h => .single (.region s n half v h)

theorem served_writeRegister (index : Byte) (v : Word) (s : State) : Served s (writeRegister index v s) := by
  unfold writeRegister
  split; · exact served_writeControl v s
  split; · exact served_writeCommand _ s
  split; · exact served_respond _ (.single (.causes s _))
  split; · exact served_respond _ (.single (.enables s _))
  split; · exact served_writeLinkcfgRegister v s
  split; · exact served_writeAckcfgRegister v s
  split; · exact served_writeKeepcfgRegister v s
  split; · exact served_writePacecfgRegister v s
  split; · exact served_writeCopycfgRegister v s
  split
  · exact served_writeRegionRegister _ _ v s
  · split <;> exact served_respond _ .refl

/-! ### The transaction, byte by byte -/

/-- The end of an INDEX byte moves the port alone (R182). -/
theorem served_takeAtIndexByte (opcode index : Byte) (s : State) : Served s (takeAtIndexByte opcode index s) := by
  unfold takeAtIndexByte
  split
  · split <;> exact served_port s _
  · split <;> exact served_port s _

theorem served_clockByte (b : Byte) (s : State) : Served s (clockByte b s) := by
  unfold clockByte takeAtDataEnd
  split
  case h_2 => exact served_takeAtIndexByte _ b s
  case h_3 =>
    split
    · exact served_port s _
    · split
      · exact served_writeRegister _ _ s
      · exact served_port s _
  all_goals exact served_port s _

theorem served_clockBytes (data : List Byte) (s : State) : Served s (data.foldl (fun s b => clockByte b s) s) := by
  induction data generalizing s with
  | nil => exact .refl
  | cons b bs ih => exact (served_clockByte b s).trans (ih _)

theorem served_clockHead (opcode index : Byte) (s : State) : Served s (clockHead opcode index s) :=
  served_clockBytes [opcode, index] s

theorem served_writeTransaction (index : Byte) (data : List Byte) (s : State) :
    Served s (writeTransaction index data s) := by
  have hclocked := (served_clockHead 0x02 index s).trans (served_clockBytes data _)
  unfold writeTransaction
  dsimp only
  split
  · exact hclocked.tail (.port _ _)
  · exact hclocked

/-- SPSEL goes down, at which a SOFT_RESET may be taken, and up again, before a command is served (R181, R188). -/
theorem served_whenServed {f : State → State} (h : ∀ s, Served s (f s)) (s : State) : Served s (whenServed f s) := by
  unfold whenServed
  split
  · exact .refl
  · split
    · exact served_port s _
    · exact (((Relation.ReflTransGen.single (.softReset s _ _)).tail (.port _ _)).tail (.port _ _)).trans (h _)

theorem served_serviceByteTime (s : State) : Served s (serviceByteTime s) := by
  unfold serviceByteTime
  split
  · exact .refl
  · split
    case h_2 =>
      split
      · exact served_port s _
      · exact served_clockByte 0 s
    case h_3 => exact served_clockByte 0 s
    all_goals exact served_port s _

/-- Every command of the service port is a run of such steps. -/
theorem served_exec {c : Instr} (hc : c.isServiceCommand = true) {s t : State} (h : exec c s = .next t) :
    Served s t := by
  cases c <;> simp only [Instr.isServiceCommand, Bool.false_eq_true] at hc <;> obtain rfl := Host.Outcome.next.inj h
  case start => exact served_whenServed served_commandStart s
  case stop => exact served_whenServed served_commandStop s
  case reseed => exact served_whenServed served_commandReseed s
  case pause => exact served_whenServed served_commandPause s
  case resync => exact served_whenServed served_commandResync s
  case mark => exact served_whenServed served_commandMark s
  case drain => exact served_whenServed served_commandDrain s
  case linkReset => exact served_whenServed served_commandLinkReset s
  case clearCounters => exact served_whenServed (fun s => served_respond _ (.single (.clearCounters s))) s
  case softReset => exact served_whenServed served_commandSoftReset s
  case unknownCommand code => exact served_whenServed (served_writeCommand code) s
  case controlMerge v => exact served_whenServed (fun s => served_respond _ (.single (.merge s v))) s
  case controlArb v => exact served_whenServed (fun s => served_respond _ (.single (.arb s v))) s
  case controlPace v => exact served_whenServed (fun s => served_respond _ (.single (.pace s v))) s
  case controlLinkEnable v => exact served_whenServed (fun s => served_respond _ (.single (.linkEnable s v))) s
  case cause v => exact served_whenServed (fun s => served_respond _ (.single (.causes s _))) s
  case enable v => exact served_whenServed (fun s => served_respond _ (.single (.enables s _))) s
  case linkcfg v => exact served_whenServed (served_writeLinkcfgRegister v) s
  case keepcfg v => exact served_whenServed (served_writeKeepcfgRegister v) s
  case ackcfg v => exact served_whenServed (served_writeAckcfgRegister v) s
  case pacecfg v => exact served_whenServed (served_writePacecfgRegister v) s
  case copycfg v => exact served_whenServed (served_writeCopycfgRegister v) s
  case region n half v => exact served_whenServed (served_writeRegionRegister n half v) s
  case registerWrite index data => exact served_whenServed (served_writeTransaction index data) s
  case invalidOpcode opcode index => exact served_whenServed (served_clockHead opcode index) s

end Sys2Proof.Machine
end

section
/-! Copy buffers and the BLOCK entries that own them (R22, R25, R27, R78, R86): which operations of the journal leave
the buffers named alone, and what reserving and freeing do to the agreement. -/

namespace Sys2Proof.Machine

/-! ### The buffers a journal's entries name -/

theorem blockBuffers_append (es fs : List Entry) : blockBuffers (es ++ fs) = blockBuffers es ++ blockBuffers fs :=
  List.filterMap_append

/-- Entries changed in place, but for the buffers they name. -/
theorem blockBuffers_map {f : Entry → Entry} (hf : ∀ e, (f e).bufferIndex = e.bufferIndex) (es : List Entry) :
    blockBuffers (es.map f) = blockBuffers es := by
  simp only [blockBuffers, List.filterMap_map, Function.comp_def, hf]

theorem blockBuffers_modify {f : Entry → Entry} (hf : ∀ e, (f e).bufferIndex = e.bufferIndex) (es : List Entry)
    (n : Nat) : blockBuffers (es.modify n f) = blockBuffers es := by
  induction es generalizing n with
  | nil => simp [blockBuffers]
  | cons e es ih =>
    cases n with
    | zero => simp [blockBuffers, List.filterMap_cons, hf]
    | succ n =>
      have htail := ih n
      simp only [blockBuffers] at htail
      simp [blockBuffers, htail, List.filterMap_cons]

@[simp] theorem blockBuffers_push_write (line : Addr) (mask : Mask) (data : Line) (j : Journal) :
    blockBuffers (j.push (writeBody line mask data)).entries = blockBuffers j.entries :=
  (blockBuffers_append _ _).trans (List.append_nil _)

@[simp] theorem blockBuffers_push_mark (n : MarkNo) (consistent drain : Bool) (j : Journal) :
    blockBuffers (j.push (.mark n consistent drain)).entries = blockBuffers j.entries :=
  (blockBuffers_append _ _).trans (List.append_nil _)

@[simp] theorem blockBuffers_merge (mask : Mask) (data : Line) (j : Journal) :
    blockBuffers (j.merge mask data).entries = blockBuffers j.entries := by
  refine blockBuffers_modify (fun e => ?_) _ _
  unfold mergeEntry
  split <;> simp_all [Entry.bufferIndex]

@[simp] theorem blockBuffers_loaded (j : Journal) : blockBuffers j.loaded.entries = blockBuffers j.entries :=
  blockBuffers_modify (f := fun e => { e with sentOnce := true }) (fun _ => rfl) _ _

@[simp] theorem blockBuffers_completeBlock (seq : Seq) (b : Fin 4) (status : CopyStatus) (j : Journal) :
    blockBuffers (j.completeBlock seq b status).entries = blockBuffers j.entries := by
  refine blockBuffers_map (fun e => ?_) _
  unfold completeEntry
  split
  · split <;> simp_all [Entry.bufferIndex]
  · rfl

/-! ### The agreement -/

/-- Entries and buffers agree: no buffer is named twice, and a buffer is FREE exactly when none names it (R78). -/
def BuffersAgree (es : List Entry) (buffers : Vector CopyBuffer 4) : Prop :=
  (blockBuffers es).Nodup ∧ ∀ i : Fin 4, buffers[i].owner = none ↔ i ∉ blockBuffers es

theorem buffersOk_iff (s : State) : s.buffersOk = true ↔ BuffersAgree s.journal.entries s.copy.buffers := by
  have hbuffer : ∀ i : Fin 4, (!s.copy.buffers[i].isFree == (blockBuffers s.journal.entries).contains i) = true ↔
      (s.copy.buffers[i].owner = none ↔ i ∉ blockBuffers s.journal.entries) := by
    intro i
    rw [CopyBuffer.isFree, ← Option.isNone_iff_eq_none, ← List.contains_iff_mem]
    cases s.copy.buffers[i].owner.isNone <;> cases (blockBuffers s.journal.entries).contains i <;> decide
  simp only [State.buffersOk, BuffersAgree, Bool.and_eq_true, decide_eq_true_eq, List.all_eq_true, List.mem_finRange,
    true_imp_iff, hbuffer]

/-- A start gives a FREE buffer to the BLOCK entry it appends (R86). -/
theorem BuffersAgree.reserve {es : List Entry} {buffers : Vector CopyBuffer 4} {i : Fin 4} {e : Entry} {b : CopyBuffer}
    (h : BuffersAgree es buffers) (hfree : buffers[i].owner = none) (he : e.bufferIndex = some i)
    (hb : b.owner ≠ none) : BuffersAgree (es ++ [e]) (buffers.set i b) := by
  obtain ⟨hnodup, howner⟩ := h
  have hnew : blockBuffers (es ++ [e]) = blockBuffers es ++ [i] := by
    rw [blockBuffers_append]
    simp [blockBuffers, he]
  rw [BuffersAgree, hnew]
  refine ⟨List.nodup_append.mpr ⟨hnodup, List.nodup_singleton i, ?_⟩, fun k => ?_⟩
  · rintro a ha _ hi rfl
    rw [List.mem_singleton.mp hi] at ha
    exact (howner i).mp hfree ha
  · by_cases hk : k = i
    · subst hk
      simp [hb]
    · have hval : i.val ≠ k.val := fun hc => hk (Fin.ext hc.symm)
      simpa [Vector.getElem_set, hval, hk] using howner k

/-- What leaves the journal at its head frees the buffers it names, and no others (R22, R25, R27). -/
theorem BuffersAgree.free {es : List Entry} {c : CopyEngine} (h : BuffersAgree es c.buffers) (n : Nat) :
    BuffersAgree (es.drop n) (c.freeBuffersOf (es.take n)).buffers := by
  obtain ⟨hnodup, howner⟩ := h
  rw [← List.take_append_drop n es, blockBuffers_append] at hnodup howner
  obtain ⟨-, hrest, hdisjoint⟩ := List.nodup_append.mp hnodup
  refine ⟨hrest, fun i => ?_⟩
  rw [freeBuffersOf_owner]
  split
  · rename_i hi
    exact iff_of_true rfl fun hmem => hdisjoint i hi i hmem rfl
  · rename_i hi
    simpa [hi] using howner i

/-- A journal that empties frees them all (R25, R27). -/
theorem BuffersAgree.freeAll {es : List Entry} {c : CopyEngine} (h : BuffersAgree es c.buffers) :
    BuffersAgree [] (c.freeBuffersOf es).buffers := by
  simpa using h.free es.length

end Sys2Proof.Machine
end

section
/-! Receive slots and the frame in hand (R129, R133, R134, R167): what releasing, placing and taking in hand do to what
the slots hold. -/

namespace Sys2Proof.Machine

/-- What the slots hold, by the apply engine's phase: at most four frames as received, and outside IDLE a WRITE or a
READY BLOCK at their head (R129, R133, R134, R167). -/
def SlotsHold (slots : List Slot) (phase : ApplyPhase) : Prop :=
  slots.length ≤ Config.slotCount ∧ (∀ c ∈ slots, c.wf = true) ∧
    (phase ≠ .idle → ∃ c, slots.head? = some c ∧ c.frame.isHeld = true)

theorem slotsOk_iff (s : State) : s.slotsOk = true ↔ SlotsHold s.rx.slots s.apply.phase := by
  simp only [State.slotsOk, SlotsHold, Bool.and_eq_true, Bool.or_eq_true, decide_eq_true_eq, List.all_eq_true,
    beq_iff_eq, Option.any_eq_true, or_iff_not_imp_left, and_assoc, ne_eq]

namespace SlotsHold

/-- Slots emptied from either end, with nothing in hand. -/
theorem of_sublist {cs ds : List Slot} {p : ApplyPhase} (h : SlotsHold cs p) (hsub : ds.Sublist cs) :
    SlotsHold ds .idle := by
  obtain ⟨hlength, hwf, -⟩ := h
  exact ⟨hsub.length_le.trans hlength, fun c hc => hwf c (hsub.subset hc), fun hidle => absurd rfl hidle⟩

/-- The frame in hand stays at the head while the engine goes on to abandon it (R134, R178). -/
theorem stays {cs : List Slot} {p : ApplyPhase} (h : SlotsHold cs p) (hp : p ≠ .idle) (q : ApplyPhase) :
    SlotsHold cs q := by
  obtain ⟨hlength, hwf, hhead⟩ := h
  exact ⟨hlength, hwf, fun _ => hhead hp⟩

/-- A flush leaves the frame in hand where it is (R134). -/
theorem flushed {cs : List Slot} {p : ApplyPhase} (h : SlotsHold cs p) : SlotsHold (cs.take 1) p := by
  obtain ⟨hlength, hwf, hhead⟩ := h
  refine ⟨(List.length_take_le' _ _).trans hlength, fun c hc => hwf c (List.mem_of_mem_take hc), fun hp => ?_⟩
  rw [List.head?_take, if_neg Nat.one_ne_zero]
  exact hhead hp

/-- The engine takes the head frame in hand (R169, R170). -/
theorem takenInHand {c : Slot} {cs : List Slot} {p : ApplyPhase} (h : SlotsHold (c :: cs) p)
    (hheld : c.frame.isHeld = true) (q : ApplyPhase) : SlotsHold (c :: cs) q := by
  obtain ⟨hlength, hwf, -⟩ := h
  exact ⟨hlength, hwf, fun _ => ⟨c, rfl, hheld⟩⟩

/-- A valid frame takes a free slot behind the others (R133). -/
theorem place {cs : List Slot} {p : ApplyPhase} {c : Slot} (h : SlotsHold cs p) (hroom : cs.length < Config.slotCount)
    (hc : c.wf = true) : SlotsHold (cs ++ [c]) p := by
  obtain ⟨-, hwf, hhead⟩ := h
  refine ⟨by simpa using hroom, fun d hd => ?_, fun hp => ?_⟩
  · rcases List.mem_append.mp hd with hd | hd
    · exact hwf d hd
    · rw [List.mem_singleton.mp hd]
      exact hc
  · obtain ⟨d, hd, hheld⟩ := hhead hp
    exact ⟨d, by simp [List.head?_append, hd], hheld⟩

end SlotsHold

end Sys2Proof.Machine
end

section
/-! What the part's operations do to its two addressed stores, the copy buffers with the BLOCK entries that own them
(R78) and the receive slots with the frame in hand (R134, R167): one relation between a state and the state after,
which every operation meets and which composes. -/

namespace Sys2Proof.Machine

/-- What an operation that leads from `s` to `t` keeps: the agreement of buffers and BLOCK entries, and what the receive
slots hold. -/
structure KeepsStores (s t : State) : Prop where
  buffers : s.buffersOk = true → t.buffersOk = true
  slots : s.slotsOk = true → t.slotsOk = true

/-- An operation that names, owns and frees no buffer. -/
@[simp] abbrev SameBuffers (s t : State) : Prop :=
  blockBuffers t.journal.entries = blockBuffers s.journal.entries ∧ t.copy.buffers = s.copy.buffers

/-- An operation that moves neither the slots nor the apply engine's phase. -/
@[simp] abbrev SameSlots (s t : State) : Prop :=
  t.rx.slots = s.rx.slots ∧ t.apply.phase = s.apply.phase

/-- An operation that moves neither store. -/
@[simp] abbrev SameStores (s t : State) : Prop := SameBuffers s t ∧ SameSlots s t

namespace KeepsStores

theorem trans {s t u : State} (h1 : KeepsStores s t) (h2 : KeepsStores t u) : KeepsStores s u :=
  ⟨h2.buffers ∘ h1.buffers, h2.slots ∘ h1.slots⟩

/-- An operation on the copy buffers, or on the entries that name them. -/
theorem of_buffers {s t : State} (hbuffers : BuffersAgree s.journal.entries s.copy.buffers →
    BuffersAgree t.journal.entries t.copy.buffers) (hslots : SameSlots s t) : KeepsStores s t := by
  obtain ⟨hrx, hphase⟩ := hslots
  refine ⟨fun h => (buffersOk_iff t).mpr (hbuffers ((buffersOk_iff s).mp h)), fun h => ?_⟩
  rw [slotsOk_iff, hrx, hphase]
  exact (slotsOk_iff s).mp h

/-- An operation that leaves each buffer its owner. -/
theorem of_owners {s t : State} (hblocks : blockBuffers t.journal.entries = blockBuffers s.journal.entries)
    (howners : ∀ i : Fin 4, t.copy.buffers[i].owner = s.copy.buffers[i].owner) (hslots : SameSlots s t) :
    KeepsStores s t := by
  refine of_buffers (fun h => ?_) hslots
  obtain ⟨hnodup, howner⟩ := h
  rw [BuffersAgree, hblocks]
  exact ⟨hnodup, fun i => (howners i).symm ▸ howner i⟩

/-- An operation on the receive slots or the frame in hand. -/
theorem of_slots {s t : State} (hbuffers : SameBuffers s t)
    (hslots : SlotsHold s.rx.slots s.apply.phase → SlotsHold t.rx.slots t.apply.phase) : KeepsStores s t := by
  obtain ⟨hblocks, hcopy⟩ := hbuffers
  refine ⟨fun h => ?_, fun h => (slotsOk_iff t).mpr (hslots ((slotsOk_iff s).mp h))⟩
  rw [buffersOk_iff, BuffersAgree, hblocks, hcopy]
  exact (buffersOk_iff s).mp h

theorem of_same {s t : State} (h : SameStores s t) : KeepsStores s t := by
  obtain ⟨⟨hblocks, hcopy⟩, hslots⟩ := h
  exact of_owners hblocks (fun i => by rw [hcopy]) hslots

theorem refl (s : State) : KeepsStores s s := of_same ⟨⟨rfl, rfl⟩, rfl, rfl⟩

/-- An operation behind one that moves neither store. -/
theorem after {s t u : State} (h : KeepsStores t u) (hst : SameStores s t) : KeepsStores s u := (of_same hst).trans h

/-- An operation followed by one that moves neither store. -/
theorem andThen {s t u : State} (h : KeepsStores s t) (htu : SameStores t u) : KeepsStores s u := h.trans (of_same htu)

/-- An operation that releases the head frame and has none in hand afterwards (R134). -/
theorem of_released {s t : State} (hbuffers : SameBuffers s t) (hslots : t.rx.slots = s.rx.slots.tail)
    (hidle : t.apply.phase = .idle) : KeepsStores s t :=
  of_slots hbuffers fun h => by
    rw [hslots, hidle]
    exact h.of_sublist (List.tail_sublist _)

/-- An operation that takes a run of entries off the journal's head and frees their buffers (R22). -/
theorem of_freed {s t : State} (n : Nat) (hentries : t.journal.entries = s.journal.entries.drop n)
    (hbuffers : t.copy.buffers = (s.copy.freeBuffersOf (s.journal.entries.take n)).buffers) (hslots : SameSlots s t) :
    KeepsStores s t :=
  of_buffers (fun h => by
    rw [hentries, hbuffers]
    exact h.free n) hslots

/-- An operation that empties the journal and frees its buffers (R25, R27). -/
theorem of_emptied {s t : State} (hentries : t.journal.entries = [])
    (hbuffers : t.copy.buffers = (s.copy.freeBuffersOf s.journal.entries).buffers) (hslots : SameSlots s t) :
    KeepsStores s t :=
  of_buffers (fun h => by
    rw [hentries, hbuffers]
    exact h.freeAll) hslots

/-- A reset (R80, R134, R167). -/
theorem of_reset {s t : State} (hjournal : t.journal = Journal.reset) (hcopy : t.copy = CopyEngine.reset)
    (hrx : t.rx = Receiver.reset) (happly : t.apply = ApplyEngine.reset) : KeepsStores s t := by
  refine ⟨fun _ => ?_, fun _ => ?_⟩
  · rw [State.buffersOk, hjournal, hcopy]
    decide
  · rw [State.slotsOk, hrx, happly]
    decide

end KeepsStores

theorem keepsStores_unlessPorst {f : State → State} (h : ∀ s, KeepsStores s (f s)) (s : State) :
    KeepsStores s (unlessPorst f s) := by
  unfold unlessPorst
  split
  · exact .refl s
  · exact h s

/-! ### The system port -/

theorem sameStores_capture (t : Transaction) (s : State) : SameStores s (capture t s) := by
  unfold capture markWrite
  (repeat' split) <;> simp

theorem keepsStores_systemAnswer (t : Transaction) (answer : MemAnswer) (data : Line) (s : State) :
    KeepsStores s (systemAnswer t answer data s) := by
  unfold systemAnswer originWriteOk
  dsimp only
  split
  · exact .of_same (by simp)
  · split
    · split
      · split
        · exact .of_same (sameStores_capture _ s)
        · exact .of_same (by simp)
      · exact .of_same (by simp)
    · exact .of_same (by simp)

theorem keepsStores_systemMemoryAnswer (answer : MemAnswer) (data : Line) (s : State) :
    KeepsStores s (systemMemoryAnswer answer data s) := by
  unfold systemMemoryAnswer
  split
  · split
    · split
      · exact (keepsStores_systemAnswer _ _ _ _).after (by simp)
      · exact .of_same (by simp)
    · unfold settleAbandoned
      split <;> exact .of_same (by simp)
    · exact .of_same (by simp)
    · exact .refl s
  · exact .refl s

theorem keepsStores_masterTransaction (r : MasterRequest) (s : State) : KeepsStores s (masterTransaction r s) := by
  unfold masterTransaction
  dsimp only
  (repeat' split) <;> exact .of_same (by simp)

theorem keepsStores_completionTaken (s : State) : KeepsStores s (completionTaken s) := by
  unfold completionTaken
  split <;> exact .of_same (by simp)

theorem keepsStores_stallExpiry (s : State) : KeepsStores s (stallExpiry s) := by
  unfold stallExpiry
  (repeat' split) <;> exact .of_same (by simp)

theorem keepsStores_heldWriteAckReport (s : State) : KeepsStores s (heldWriteAckReport s) := by
  unfold heldWriteAckReport releaseIntoJournal
  dsimp only
  (repeat' split) <;> exact .of_same (by simp)

theorem keepsStores_srstAssert (s : State) : KeepsStores s (srstAssert s) := by
  unfold srstAssert settleSrst
  (repeat' split) <;> exact .of_same (by simp)

/-! ### The copy engine -/

theorem owner_of_freeBuffer {c : CopyEngine} {i : Fin 4} (h : c.freeBuffer = some i) : c.buffers[i].owner = none := by
  have hfree := List.find?_some h
  simpa [CopyBuffer.isFree] using hfree

theorem keepsStores_examineCopy (s : State) : KeepsStores s (examineCopy s) := .of_same (by simp)

theorem keepsStores_presentRead (s : State) : KeepsStores s (presentRead s) := .of_same (by simp)

/-- A start that reserves takes a FREE buffer for the entry it appends (R86). -/
theorem keepsStores_reserveCopy (b : Block) {i : Fin 4} {s : State} (hfree : s.copy.freeBuffer = some i) :
    KeepsStores s (reserveCopy b i s) :=
  .of_buffers (fun h => h.reserve (owner_of_freeBuffer hfree) rfl (by simp)) (by simp)

theorem keepsStores_startTaken (b : Block) (s : State) : KeepsStores s (startTaken b s) := by
  unfold startTaken
  split
  · rename_i i hfree
    split
    · exact (keepsStores_reserveCopy b hfree).trans (keepsStores_presentRead _)
    · exact .of_same (by simp)
  · exact .of_same (by simp)

theorem keepsStores_takeCopyStart (s : State) : KeepsStores s (takeCopyStart s) := by
  unfold takeCopyStart
  split
  · dsimp only
    split
    · exact .of_same (by simp)
    · exact ((keepsStores_startTaken _ _).after (by simp)).trans (keepsStores_examineCopy _)
  · exact .refl s

/-- The end of a copy changes its entry's status and no buffer (R91). -/
theorem sameStores_endCopy (r : CopyRecord) (s : State) : SameStores s (endCopy r s) := by
  unfold endCopy
  dsimp only
  split <;> simp

theorem storeLine_owner (i : Fin 4) (line : Fin 64) (data : Line) (c : CopyEngine) (k : Fin 4) :
    (c.storeLine i line data).buffers[k].owner = c.buffers[k].owner := by
  by_cases hk : i = k
  · subst hk
    simp [CopyEngine.storeLine]
  · have hval : i.val ≠ k.val := fun hc => hk (Fin.ext hc)
    simp [CopyEngine.storeLine, hval]

theorem keepsStores_takeLine (r : CopyRecord) (answer : MemAnswer) (data : Line) (s : State) :
    KeepsStores s (takeLine r answer data s) := by
  unfold takeLine
  cases answer with
  | ok =>
    have hstored : KeepsStores s { s with copy := s.copy.storeLine r.buffer r.nextLine data } :=
      .of_owners rfl (storeLine_owner _ _ _ _) (by simp)
    dsimp only
    split
    · exact hstored.andThen (sameStores_endCopy _ _)
    · exact hstored.andThen (by simp)
  | error =>
    dsimp only
    split
    · exact .of_same (sameStores_endCopy _ _)
    · exact .of_same (by simp)

theorem keepsStores_lineReadAnswer (answer : MemAnswer) (data : Line) (s : State) :
    KeepsStores s (lineReadAnswer answer data s) := by
  unfold lineReadAnswer copyAnswer
  split
  · split
    · dsimp only
      split
      · split
        · exact ((keepsStores_takeLine _ _ _ _).after (by simp)).trans (keepsStores_presentRead _)
        · exact .of_same (by simp)
      · exact .of_same (by simp)
    · exact .refl s
  · exact .refl s

theorem keepsStores_pacingExpiry (s : State) : KeepsStores s (pacingExpiry s) := by
  unfold pacingExpiry
  split <;> exact .of_same (by simp)

/-! ### The transmitter -/

theorem keepsStores_offerLoad (s : State) : KeepsStores s (offerLoad s) := by
  unfold offerLoad takeLoad
  dsimp only
  (repeat' split) <;> exact .of_same (by simp)

theorem keepsStores_frameBoundary (s : State) : KeepsStores s (frameBoundary s) := by
  unfold frameBoundary
  split <;> exact .of_same (by simp)

theorem keepsStores_frameEnd (s : State) : KeepsStores s (frameEnd s) := by
  unfold frameEnd
  split <;> exact .of_same (by simp)

theorem keepsStores_breakStart (s : State) : KeepsStores s (breakStart s) := by
  unfold breakStart
  (repeat' split) <;> exact .of_same (by simp)

theorem keepsStores_breakEnd (s : State) : KeepsStores s (breakEnd s) := by
  unfold breakEnd
  split <;> exact .of_same (by simp)

/-! ### The mirror controller -/

/-- A MARK entry names no buffer (R7, R112). -/
@[simp] theorem appendPendingMark_blocks (s : State) :
    blockBuffers (appendPendingMark s).journal.entries = blockBuffers s.journal.entries := by
  unfold appendPendingMark
  (repeat' split) <;> simp

@[simp] theorem acceptMark_blocks (drain : Bool) (s : State) :
    blockBuffers (acceptMark drain s).journal.entries = blockBuffers s.journal.entries :=
  appendPendingMark_blocks _

@[simp] theorem acceptDrain_blocks (s : State) :
    blockBuffers (acceptDrain s).journal.entries = blockBuffers s.journal.entries :=
  acceptMark_blocks true _

@[simp] theorem appendAndCheck_blocks (s : State) :
    blockBuffers (appendAndCheck s).journal.entries = blockBuffers s.journal.entries := by
  unfold appendAndCheck
  dsimp only
  (repeat' split) <;> simp

theorem keepsStores_dirtyMarkReport (s : State) : KeepsStores s (dirtyMarkReport s) := by
  unfold dirtyMarkReport
  split <;> exact .of_same (by simp)

theorem keepsStores_mirrorAckReport (s : State) : KeepsStores s (mirrorAckReport s) := by
  unfold mirrorAckReport
  split <;> exact .of_same (by simp)

theorem keepsStores_markPin (level : Bool) (s : State) : KeepsStores s (markPin level s) := by
  unfold markPin markPinRequest
  dsimp only
  (repeat' split) <;> exact .of_same (by simp)

theorem keepsStores_drainPin (level : Bool) (s : State) : KeepsStores s (drainPin level s) := by
  unfold drainPin drainPinRequest
  dsimp only
  (repeat' split) <;> exact .of_same (by simp)

end Sys2Proof.Machine
end

section
/-! The apply engine, the link, the resets and the service port at the two addressed stores, and every step's keeping of
them (R78, R133, R134, R167, R178). -/

namespace Sys2Proof.Machine

/-! ### The apply engine -/

/-- The end of an apply releases the head frame and leaves none in hand (R134, R173). -/
theorem applyEnd_slots (s : State) :
    (applyEnd s).rx.slots = s.rx.slots.tail ∧ (applyEnd s).apply.phase = .idle := by
  unfold applyEnd
  dsimp only
  split <;> simp

theorem keepsStores_applyEnd (s : State) : KeepsStores s (applyEnd s) :=
  .of_released (by simp) (applyEnd_slots s).1 (applyEnd_slots s).2

/-- With no frame in hand, the head frame is released. -/
theorem keepsStores_releaseSlot {s : State} (hidle : s.apply.phase = .idle) : KeepsStores s (releaseSlot s) :=
  .of_released (by simp) rfl hidle

/-- The engine goes on with the head frame in hand: a WRITE, or a BLOCK that is not poisoned (R167, R169, R170). -/
theorem KeepsStores.of_takenInHand {s t : State} {c : Slot} {rest : List Slot} (hslots : s.rx.slots = c :: rest)
    (hheld : c.frame.isHeld = true) (hbuffers : SameBuffers s t) (hsame : t.rx.slots = s.rx.slots) : KeepsStores s t :=
  .of_slots hbuffers fun h => by
    rw [hsame, hslots]
    rw [hslots] at h
    exact h.takenInHand hheld _

/-- The head frame, next in line, is taken in hand or released (R169 to R172). -/
theorem keepsStores_applyFrame {s : State} {c : Slot} {rest : List Slot} (hidle : s.apply.phase = .idle)
    (hslots : s.rx.slots = c :: rest) : KeepsStores s (applyFrame c.frame s) := by
  unfold applyFrame
  split
  · rename_i hbody
    exact .of_takenInHand hslots (by simp [Frame.isHeld, hbody]) (by simp) (by simp [enterWriting])
  · rename_i hbody
    exact .of_takenInHand hslots (by simp [Frame.isHeld, hbody]) (by simp) (by simp [enterWriting])
  · exact (keepsStores_applyEnd _).after (by simp)
  · unfold applyMark
    split <;> exact (keepsStores_applyEnd _).after (by simp)
  all_goals exact keepsStores_releaseSlot hidle

/-- A head frame that is not applied is released (R168, R176). -/
theorem keepsStores_judgeFrame {s : State} {c : Slot} {rest : List Slot} (hidle : s.apply.phase = .idle)
    (hslots : s.rx.slots = c :: rest) : KeepsStores s (judgeFrame c.frame s) := by
  have hreleased := keepsStores_releaseSlot hidle
  unfold judgeFrame
  split; · exact hreleased.andThen (by simp)
  split; · exact hreleased.andThen (by simp)
  split; · exact keepsStores_applyFrame hidle hslots
  split; · exact hreleased.andThen (by simp)
  split
  · unfold takeGap
    split
    · exact hreleased
    · exact hreleased.andThen (by simp)
  · exact hreleased.andThen (by simp)

theorem keepsStores_applyTakeFrame (s : State) : KeepsStores s (applyTakeFrame s) := by
  unfold applyTakeFrame
  split
  · rename_i htakes
    split
    · rename_i hslots
      exact keepsStores_judgeFrame htakes.2 hslots
    · exact .refl s
  · exact .refl s

theorem keepsStores_advanceApply (s : State) : KeepsStores s (advanceApply s) := by
  unfold advanceApply
  split
  · split
    · exact .of_same (by simp [presentBlockLine, presentWrite])
    · exact keepsStores_applyEnd s
  · exact keepsStores_applyEnd s

theorem keepsStores_noteWrite (answer : MemAnswer) (s : State) : KeepsStores s (noteWrite answer s) := by
  rw [noteWrite_eq]
  exact .of_same (by simp)

theorem keepsStores_applyAnswer (answer : MemAnswer) (s : State) : KeepsStores s (applyAnswer answer s) := by
  cases hphase : s.apply.phase with
  | idle =>
    rw [applyAnswer, hphase]
    exact .refl s
  | writing =>
    rw [applyAnswer_writing answer hphase]
    exact (keepsStores_noteWrite answer s).trans (keepsStores_advanceApply _)
  | abandoning =>
    rw [applyAnswer_abandoning answer hphase, noteWrite_eq]
    exact .of_released (by simp) rfl rfl

theorem keepsStores_applyWriteAnswer (answer : MemAnswer) (s : State) : KeepsStores s (applyWriteAnswer answer s) := by
  unfold applyWriteAnswer
  split
  · split
    · dsimp only
      split
      · exact (keepsStores_applyAnswer _ _).after (by simp)
      · exact .of_same (by simp)
    · exact .refl s
  · exact .refl s

/-- An abandoned frame is released, or stays at the head until its write is answered (R178). -/
theorem keepsStores_abandonFrame (s : State) : KeepsStores s (abandonFrame s) := by
  unfold abandonFrame
  split
  · rename_i hwriting
    split
    · exact .of_released (by simp) rfl rfl
    · exact .of_slots (by simp) fun h => h.stays (by simp [hwriting]) _
  all_goals exact .refl s

/-- A flush keeps the head frame while it is in hand (R134). -/
theorem keepsStores_flushSlots (s : State) : KeepsStores s (flushSlots s) := by
  have hflushed : KeepsStores s { s with rx.slots := s.rx.slots.take 1 } := .of_slots (by simp) SlotsHold.flushed
  unfold flushSlots
  split
  · rename_i hidle
    exact .of_slots (by simp) fun h => by simpa [hidle] using h.of_sublist (List.nil_sublist _)
  · exact hflushed
  · exact hflushed

/-- A replica that gives up its stream abandons the frame in hand and flushes the slots (R146, R164, R166). -/
theorem keepsStores_flushAbandoned (s : State) : KeepsStores s (flushSlots (abandonFrame s)) :=
  (keepsStores_abandonFrame s).trans (keepsStores_flushSlots _)

/-! ### The link leaves UP -/

theorem keepsStores_replicaLeftUp (s : State) : KeepsStores s (replicaLeftUp s) := by
  unfold replicaLeftUp
  split
  · exact (keepsStores_flushAbandoned _).after (by simp)
  all_goals exact .refl s

/-- The link-loss transition frees the buffer of every BLOCK entry it spills (R25, R103). -/
theorem keepsStores_linkLossTransition (s : State) : KeepsStores s (linkLossTransition s) :=
  .of_emptied (by simp [Journal.emptied]) (by simp [linkLossTransition_copy]) (by simp)

theorem keepsStores_reportLeftUp (s : State) : KeepsStores s (reportLeftUp s) := by
  unfold reportLeftUp
  split
  · rw [originLeftUp_eq]
    split
    · exact keepsStores_linkLossTransition s
    · exact .refl s
  · exact keepsStores_replicaLeftUp s

theorem keepsStores_enterOff (s : State) : KeepsStores s (enterOff s) :=
  (keepsStores_flushSlots _).after (by simp)

theorem keepsStores_enterAfterUp (dest : LeaveTo) (s : State) : KeepsStores s (enterAfterUp dest s) := by
  unfold enterAfterUp
  split
  · exact .of_same (by simp)
  · exact keepsStores_enterOff s
  · split <;> exact .of_same (by simp)

theorem keepsStores_leaveUp (dest : LeaveTo) (withBreak counted : Bool) (s : State) :
    KeepsStores s (leaveUp dest withBreak counted s) := by
  unfold leaveUp
  dsimp only
  refine KeepsStores.trans ?_ (keepsStores_reportLeftUp _)
  split <;> exact (keepsStores_enterAfterUp _ _).after (by simp)

theorem keepsStores_silenceExpiry (s : State) : KeepsStores s (silenceExpiry s) := by
  unfold silenceExpiry
  split
  · exact keepsStores_leaveUp _ _ _ s
  · exact .refl s

theorem keepsStores_ackExpiry (s : State) : KeepsStores s (ackExpiry s) := by
  have hstep : KeepsStores s (ackTimeoutStep s) := .of_same (by simp [ackTimeoutStep])
  unfold ackExpiry
  dsimp only
  split
  · split
    · exact hstep.trans (keepsStores_leaveUp _ _ _ _)
    · exact hstep
  · exact .refl s

theorem keepsStores_breakDetected (s : State) : KeepsStores s (breakDetected s) := by
  have hstopBit : SameStores s (breakStopBit s) := by
    unfold breakStopBit
    split <;> simp
  unfold breakDetected takeBreakReport
  dsimp only
  split
  · exact .refl s
  · split
    · exact (keepsStores_leaveUp _ _ _ _).after hstopBit
    · exact .of_same hstopBit

theorem keepsStores_renewSession (s : State) : KeepsStores s (renewSession s) := by
  unfold renewSession
  split
  · exact keepsStores_leaveUp _ _ _ s
  · exact .refl s

theorem keepsStores_resetLink (s : State) : KeepsStores s (resetLink s) := by
  unfold resetLink
  split
  · exact keepsStores_leaveUp _ _ _ s
  · exact .of_same (by simp)

theorem keepsStores_setEnable (v : Bool) (s : State) : KeepsStores s (setEnable v s) := by
  unfold setEnable clearLinkEnable
  dsimp only
  split
  · exact .of_same (by simp)
  · split
    · exact (keepsStores_leaveUp _ _ _ _).after (by simp)
    · exact (keepsStores_enterOff _).after (by simp)
    · exact (keepsStores_enterOff _).after (by simp)
    · exact .of_same (by simp)

theorem keepsStores_helloKeepaliveExpiry (s : State) : KeepsStores s (helloKeepaliveExpiry s) := by
  unfold helloKeepaliveExpiry
  dsimp only
  (repeat' split) <;> exact .of_same (by simp)

/-! ### Frames received -/

theorem keepsStores_receiverAlign (s : State) : KeepsStores s (receiverAlign s) := by
  unfold receiverAlign
  split <;> exact .of_same (by simp)

theorem keepsStores_rxFraming (c : FramingCheck) (s : State) : KeepsStores s (rxFraming c s) := by
  unfold rxFraming
  (repeat' split) <;> exact .of_same (by simp)

theorem keepsStores_rxTruncation (s : State) : KeepsStores s (rxTruncation s) := by
  unfold rxTruncation
  split <;> exact .of_same (by simp)

/-- A frame that passes the checks of the part's role is disposed of; any other is discarded (R131, R132). -/
theorem keepsStores_receiveBytes {dispose : Frame → State → State} {bytes : List Byte}
    (h : ∀ f s, judgeBytes s.role bytes = .valid f → KeepsStores s (dispose f s)) (s : State) :
    KeepsStores s (receiveBytes dispose bytes s) := by
  unfold receiveBytes
  split
  · split
    · exact .of_same (by simp)
    · exact .of_same (by simp)
    · exact .of_same (by simp)
    · rename_i f hvalid
      exact (h f { s with rx.phase := .between } hvalid).after (by simp)
  · exact .refl s

/-- A frame that passed every check takes a free slot with its bytes, or is an overrun (R132, R133). -/
theorem keepsStores_placeFrame {f : Frame} {bytes : List Byte} (hvalid : judgeBytes .replica bytes = .valid f)
    (s : State) : KeepsStores s (placeFrame f bytes s) := by
  unfold placeFrame
  dsimp only
  split
  · rename_i hroom
    have hwf : Slot.wf ⟨f, bytes⟩ = true := by simp [Slot.wf, hvalid]
    exact .of_slots (by simp) fun h => by simpa using h.place (by simpa using hroom) hwf
  · exact .of_same (by simp)

theorem keepsStores_disposeData {bytes : List Byte} (f : Frame) (s : State)
    (hvalid : judgeBytes s.role bytes = .valid f) : KeepsStores s (disposeData bytes f s) := by
  unfold disposeData
  split
  case h_6 => exact .refl s
  all_goals
    rename_i hrole _
    exact keepsStores_placeFrame (hrole ▸ hvalid) s

theorem keepsStores_answerHello (f : Frame) (s : State) : KeepsStores s (answerHello f s) := by
  have hflushed := (keepsStores_flushAbandoned _).after (s := s)
    (t := { s with link.session := f.session, apply.expected := f.seq }) (by simp)
  unfold answerHello
  dsimp only
  split <;> exact hflushed.andThen (by simp)

theorem keepsStores_disposeHello (f : Frame) (s : State) : KeepsStores s (disposeHello f s) := by
  unfold disposeHello takeHello
  split
  · split
    · split
      · exact .of_same (by simp)
      · exact keepsStores_answerHello f s
    · split
      · exact .of_same (by simp)
      · exact .refl s
  · exact .refl s

theorem keepsStores_disposeHelloAck (f : Frame) (s : State) : KeepsStores s (disposeHelloAck f s) := by
  unfold disposeHelloAck takeHelloAck originEnterUp originReachedUp
  dsimp only
  (repeat' split) <;> exact .of_same (by simp)

/-- An acknowledge-through frees the buffers of the BLOCK entries it removes (R21, R22). -/
theorem keepsStores_acknowledgeThrough (n : Seq) (s : State) : KeepsStores s (acknowledgeThrough n s) := by
  refine .of_freed (s.journal.removedBy n).length ?_ ?_ (by simp)
  · rw [acknowledgeThrough_journal]
    rfl
  · rw [acknowledgeThrough_buffers, ← Journal.removedBy_eq_take]

theorem keepsStores_rewindTo (target : Seq) (s : State) : KeepsStores s (rewindTo target s) := .of_same (by simp)

theorem keepsStores_disposeAck (f : Frame) (s : State) : KeepsStores s (disposeAck f s) := by
  unfold disposeAck takeAck
  dsimp only
  split
  · split
    · split
      · exact (keepsStores_acknowledgeThrough _ _).after (by simp)
      · exact .of_same (by simp)
    · exact .of_same (by simp)
  · exact .refl s

theorem keepsStores_disposeNak (f : Frame) (s : State) : KeepsStores s (disposeNak f s) := by
  unfold disposeNak takeNak
  dsimp only
  split
  · split
    · split
      · exact ((keepsStores_acknowledgeThrough _ _).after (by simp)).trans (keepsStores_rewindTo _ _)
      · exact .of_same (by simp)
    · exact .of_same (by simp)
  · exact .refl s

/-! ### Resets and the service port -/

theorem keepsStores_takeSoftReset (pins : RequestPins) (selected : Bool) (s : State) :
    KeepsStores s (takeSoftReset pins selected s) := by
  unfold takeSoftReset
  split
  · exact .of_reset rfl rfl rfl rfl
  · exact .refl s

theorem keepsStores_porstDeassert (roleHigh : Bool) (pins : RequestPins) (selected : Bool) (s : State) :
    KeepsStores s (porstDeassert roleHigh pins selected s) := by
  unfold porstDeassert
  split <;> exact .of_same (by simp)

/-- STOP of the origin frees the buffer of every BLOCK entry it discards (R27, R104). -/
theorem keepsStores_stopOrigin (s : State) : KeepsStores s (stopOrigin s) := by
  refine KeepsStores.trans ?_ (keepsStores_renewSession _)
  exact .of_emptied (by rw [stopMirroring_journal]) (by rw [stopMirroring_copy]) (by simp)

theorem keepsStores_stopReplica (s : State) : KeepsStores s (stopReplica s) := by
  have hended : KeepsStores s (endReplica s) :=
    (keepsStores_flushAbandoned _).after (by simp)
  unfold stopReplica
  dsimp only
  split
  · exact hended.trans (keepsStores_leaveUp _ _ _ _)
  · exact hended

@[simp] theorem reseed_buffers (s : State) : (reseed s).copy.buffers = s.copy.buffers := by
  unfold reseed
  dsimp only
  (repeat' split) <;> simp

theorem keepsStores_servedStep {s t : State} (h : ServedStep s t) : KeepsStores s t := by
  cases h with
  | softReset pins selected => exact keepsStores_takeSoftReset pins selected s
  | startOrigin => exact (keepsStores_renewSession _).after (by simp)
  | startReplica => exact .of_same (by simp [startReplica])
  | stopOrigin => exact keepsStores_stopOrigin s
  | stopReplica => exact keepsStores_stopReplica s
  | linkReset => exact keepsStores_resetLink s
  | linkEnable v => exact keepsStores_setEnable v s
  | _ => exact .of_same (by simp)

theorem keepsStores_served {s t : State} (h : Served s t) : KeepsStores s t :=
  h.keeps .refl .trans keepsStores_servedStep

/-! ### The step -/

theorem keepsStores_exec (c : Instr) (s t : State) (h : exec c s = .next t) : KeepsStores s t := by
  by_cases hservice : c.isServiceCommand = true
  · exact keepsStores_served (served_exec hservice h)
  have held : ∀ {f : State → State}, (∀ s, KeepsStores s (f s)) → KeepsStores s (unlessPorst f s) :=
    fun hf => keepsStores_unlessPorst hf s
  cases c <;> simp only [Instr.isServiceCommand, not_true_eq_false] at hservice <;>
    obtain rfl := (Host.Outcome.next.inj h)
  case masterTransaction r => exact held (keepsStores_masterTransaction r)
  case memoryReady => exact .of_same (by simp)
  case systemMemoryAnswer beats data => exact keepsStores_systemMemoryAnswer _ data s
  case completionTaken => exact held keepsStores_completionTaken
  case stallTimerExpiry => exact held keepsStores_stallExpiry
  case heldWriteAckReport => exact held keepsStores_heldWriteAckReport
  case dirtyMarkReport => exact held keepsStores_dirtyMarkReport
  case mirrorAckReport => exact held keepsStores_mirrorAckReport
  case copyStart => exact held keepsStores_takeCopyStart
  case copyPacingTimerExpiry => exact held keepsStores_pacingExpiry
  case lineReadAnswer beats data => exact keepsStores_lineReadAnswer _ data s
  case load => exact held keepsStores_offerLoad
  case frameBoundary => exact held keepsStores_frameBoundary
  case frameEnd => exact held keepsStores_frameEnd
  case breakStart => exact held keepsStores_breakStart
  case breakEnd => exact held keepsStores_breakEnd
  case receiverAlign => exact held keepsStores_receiverAlign
  case rxFraming c => exact held (keepsStores_rxFraming c)
  case rxTruncation => exact held keepsStores_rxTruncation
  case dataFrameReceived bytes => exact held (keepsStores_receiveBytes keepsStores_disposeData)
  case helloReceived bytes => exact held (keepsStores_receiveBytes fun f s _ => keepsStores_disposeHello f s)
  case helloAckReceived bytes => exact held (keepsStores_receiveBytes fun f s _ => keepsStores_disposeHelloAck f s)
  case ackReceived bytes => exact held (keepsStores_receiveBytes fun f s _ => keepsStores_disposeAck f s)
  case nakReceived bytes => exact held (keepsStores_receiveBytes fun f s _ => keepsStores_disposeNak f s)
  case helloKeepaliveTimerExpiry => exact held keepsStores_helloKeepaliveExpiry
  case silenceTimerExpiry => exact held keepsStores_silenceExpiry
  case ackTimerExpiry => exact held keepsStores_ackExpiry
  case breakDetected => exact held keepsStores_breakDetected
  case applyTakeFrame => exact held keepsStores_applyTakeFrame
  case applyWriteAnswer beats => exact keepsStores_applyWriteAnswer _ s
  case markPinEdge level => exact held (keepsStores_markPin level)
  case drainPinEdge level => exact held (keepsStores_drainPin level)
  case softResetTaken pins selected => exact held (keepsStores_takeSoftReset pins selected)
  case srstAssert => exact keepsStores_srstAssert s
  case srstDeassert => exact .of_same (by simp [srstDeassert])
  case porstAssert => exact .of_reset rfl rfl rfl rfl
  case porstDeassert role pins selected => exact keepsStores_porstDeassert role pins selected s

theorem keepsStores_step (s t : State) (h : step s = .next t) : KeepsStores s t := by
  unfold step at h
  split at h
  · obtain rfl := Host.Outcome.next.inj h
    exact keepsStores_served (served_serviceByteTime s)
  · exact (keepsStores_exec _ _ t h).after (by simp)

/-- Settles O55: each command keeps the buffers' agreement with the BLOCK entries, and what the slots hold. -/
theorem stepsKeepBuffersAndSlots : Obligations.StepsKeepBuffersAndSlots := by
  unfold Obligations.StepsKeepBuffersAndSlots
  exact ⟨fun s t h => (keepsStores_step s t h).buffers, fun s t h => (keepsStores_step s t h).slots⟩

end Sys2Proof.Machine
end

section
/-! What the mirror state, the replica state and the link agree on, and what SYNCED means (R97, R101 to R103, R139,
R162): one relation between a state and the state after, which every operation meets and which composes. -/

namespace Sys2Proof.Machine

/-! ### The agreement, rule by rule -/

theorem streaming_iff (s : State) :
    s.streaming = true ↔ s.mirror.state = .resyncing ∨ s.mirror.state = .synced := by
  simp [State.streaming]

theorem notUp_iff (s : State) : s.notUp = true ↔ s.link.state ≠ .up := by simp [State.notUp]

/-- Nothing in the journal, held, waiting or draining (R103, R111, R114). -/
def State.quiet (s : State) : Prop :=
  s.journal.entries = [] ∧ s.held = false ∧ s.mirror.pendingMark = none ∧ s.mirror.drain = .clear

/-- The origin's side of the agreement (R97, R103, R111, R114). -/
structure OriginAgrees (s : State) : Prop where
  streams : s.streaming = true → s.role = .origin ∧ s.link.state = .up
  tracks : s.mirror.state = .tracking → s.role = .origin ∧ s.link.state ≠ .up
  cleared : s.mirror.state = .disabled → s.dirty.blocks = [] ∧ s.dirty.count = 0
  quiet : s.streaming = false → s.quiet

theorem originOk_iff (s : State) : s.originOk = true ↔ OriginAgrees s := by
  have hquiet : (s.streaming || (s.journal.entries.isEmpty && !s.held && s.mirror.pendingMark.isNone &&
      s.mirror.drain == .clear)) = true ↔ (s.streaming = false → s.quiet) := by
    cases s.streaming <;> simp [State.quiet, and_assoc]
  rw [State.originOk, Bool.and_eq_true, hquiet]
  constructor
  · rintro ⟨hstate, hq⟩
    refine ⟨fun h => ?_, fun h => ?_, fun h => ?_, hq⟩
    · rcases (streaming_iff s).mp h with h | h <;> simpa [h] using hstate
    · simpa [h, State.notUp] using hstate
    · simpa [h] using hstate
  · rintro ⟨hstreams, htracks, hcleared, hq⟩
    refine ⟨?_, hq⟩
    cases h : s.mirror.state with
    | disabled => simpa using hcleared h
    | tracking => simpa [State.notUp] using htracks h
    | resyncing => simpa using hstreams ((streaming_iff s).mpr (.inl h))
    | synced => simpa using hstreams ((streaming_iff s).mpr (.inr h))

/-- The replica's side of the agreement (R139, R162). -/
structure ReplicaAgrees (s : State) : Prop where
  idle : s.role = .origin → s.mirror.replica = .disabled
  applies : s.role = .replica → (s.mirror.replica = .applying ↔ s.link.state = .up)
  session : s.role = .replica → (s.link.session ≠ 0 ↔ s.link.state = .up)
  notDown : s.role = .replica → s.link.state ≠ .down

theorem replicaOk_iff (s : State) : s.replicaOk = true ↔ ReplicaAgrees s := by
  unfold State.replicaOk
  cases hrole : s.role with
  | origin =>
    refine ⟨fun h => ⟨fun _ => by simpa using h, ?_, ?_, ?_⟩, fun h => by simpa using h.idle hrole⟩ <;>
      simp [hrole]
  | replica =>
    have hbeq : ∀ a b : Bool, (a == b) = true ↔ (a = true ↔ b = true) := by decide
    simp only [Bool.and_eq_true, hbeq]
    simp only [beq_iff_eq, bne_iff_ne]
    exact ⟨fun ⟨⟨ha, hs⟩, hd⟩ => ⟨by simp [hrole], fun _ => ha, fun _ => hs, fun _ => hd⟩,
      fun h => ⟨⟨h.applies hrole, h.session hrole⟩, h.notDown hrole⟩⟩

/-- What SYNCED means (R101, R102). -/
def SyncedMeans (s : State) : Prop :=
  s.mirror.state = .synced → blockBuffers s.journal.entries = [] ∧
    (s.dirty.count = 0 ∨ s.reports.marks.any (fun r => r.wasClear) = true)

/-- No BLOCK entry is no buffer named. -/
theorem any_isBlock_eq_false_iff (es : List Entry) :
    es.any (fun e => e.isBlock) = false ↔ blockBuffers es = [] := by
  have hentry : ∀ e : Entry, e.isBlock = false ↔ e.bufferIndex = none := by
    rintro ⟨q, o, body⟩
    cases body <;> simp [Entry.isBlock, Entry.bufferIndex]
  simp [blockBuffers, List.filterMap_eq_nil_iff, hentry]

theorem syncedOk_iff (s : State) : s.syncedOk = true ↔ SyncedMeans s := by
  unfold State.syncedOk SyncedMeans
  rw [← any_isBlock_eq_false_iff]
  by_cases h : s.mirror.state = .synced <;> simp [h]

/-! ### What an operation keeps -/

/-- Both sides of the agreement. -/
def StatesAgree (s : State) : Prop := OriginAgrees s ∧ ReplicaAgrees s

/-- What an operation that leads from `s` to `t` keeps: PORST's level, the agreement of the states, the form of the
dirty map, and in agreeing states the meaning of SYNCED. -/
structure KeepsAgreement (s t : State) : Prop where
  porst : t.porst = s.porst
  states : StatesAgree s → StatesAgree t
  map : KeepsMap s t
  synced : s.dirty.wf = true → StatesAgree s → SyncedMeans s → SyncedMeans t

/-- An operation that moves neither the part's place in role and link nor the replica's state. -/
@[simp] abbrev SamePlace (s t : State) : Prop :=
  t.porst = s.porst ∧ t.role = s.role ∧ t.link.state = s.link.state ∧ t.link.session = s.link.session ∧
    t.mirror.replica = s.mirror.replica

/-- An operation that moves none of what the agreement and SYNCED speak of. -/
@[simp] abbrev SameMirror (s t : State) : Prop :=
  SamePlace s t ∧ t.mirror.state = s.mirror.state ∧ t.mirror.pendingMark = s.mirror.pendingMark ∧
    t.mirror.drain = s.mirror.drain ∧ t.journal.entries = s.journal.entries ∧ t.dirty = s.dirty ∧
    t.sys.phase = s.sys.phase ∧ t.reports.marks = s.reports.marks

theorem held_of_phase {s t : State} (h : t.sys.phase = s.sys.phase) : t.held = s.held := by
  simp only [State.held, h]

theorem streaming_of_state {s t : State} (h : t.mirror.state = s.mirror.state) : t.streaming = s.streaming := by
  simp only [State.streaming, h]

/-- The replica's side reads the place alone. -/
theorem ReplicaAgrees.of_place {s t : State} (h : SamePlace s t) (hs : ReplicaAgrees s) : ReplicaAgrees t := by
  obtain ⟨-, hrole, hlink, hsession, hreplica⟩ := h
  obtain ⟨hidle, happlies, hnumber, hdown⟩ := hs
  exact ⟨by rwa [hrole, hreplica], by rwa [hrole, hreplica, hlink], by rwa [hrole, hsession, hlink],
    by rwa [hrole, hlink]⟩

namespace KeepsAgreement

theorem trans {s t u : State} (h1 : KeepsAgreement s t) (h2 : KeepsAgreement t u) : KeepsAgreement s u :=
  ⟨h2.porst.trans h1.porst, h2.states ∘ h1.states, h1.map.trans h2.map,
    fun hwf hs hm => h2.synced (h1.map hwf) (h1.states hs) (h1.synced hwf hs hm)⟩

/-- An operation in a mirror state that it does not leave. -/
theorem of_stays {s t : State} (hplace : SamePlace s t) (hstate : t.mirror.state = s.mirror.state)
    (hcleared : s.mirror.state = .disabled → s.dirty.blocks = [] → t.dirty = s.dirty)
    (hquiet : s.streaming = false → s.quiet → t.quiet) (hmap : KeepsMap s t)
    (hsynced : s.mirror.state = .synced → s.dirty.wf = true → SyncedMeans s → SyncedMeans t) : KeepsAgreement s t := by
  obtain ⟨hporst, hrole, hlink, -, -⟩ := id hplace
  have hstreaming := streaming_of_state hstate
  refine ⟨hporst, fun ⟨ho, hr⟩ => ⟨⟨?_, ?_, fun h => ?_, fun h => ?_⟩, hr.of_place hplace⟩, hmap, fun hwf _ hm h => ?_⟩
  · rw [hstreaming, hrole, hlink]
    exact ho.streams
  · rw [hstate, hrole, hlink]
    exact ho.tracks
  · rw [hstate] at h
    obtain ⟨hblocks, hcount⟩ := ho.cleared h
    rw [hcleared h hblocks]
    exact ⟨hblocks, hcount⟩
  · rw [hstreaming] at h
    exact hquiet h (ho.quiet h)
  · exact hsynced (hstate ▸ h) hwf hm h

/-- An operation from one of RESYNCING and SYNCED to one of them. -/
theorem of_streams {s t : State} (hplace : SamePlace s t) (hs : s.streaming = true) (ht : t.streaming = true)
    (hmap : KeepsMap s t) (hsynced : s.dirty.wf = true → SyncedMeans s → SyncedMeans t) : KeepsAgreement s t := by
  obtain ⟨hporst, hrole, hlink, -, -⟩ := id hplace
  refine ⟨hporst, fun ⟨ho, hr⟩ => ⟨⟨fun _ => ?_, fun h => ?_, fun h => ?_, fun h => ?_⟩, hr.of_place hplace⟩, hmap,
    fun hwf _ hm => hsynced hwf hm⟩
  · rw [hrole, hlink]
    exact ho.streams hs
  · simp [State.streaming, h] at ht
  · simp [State.streaming, h] at ht
  · simp [ht] at h

theorem of_same {s t : State} (h : SameMirror s t) : KeepsAgreement s t := by
  obtain ⟨hplace, hstate, hpending, hdrain, hentries, hdirty, hphase, hmarks⟩ := h
  refine of_stays hplace hstate (fun _ _ => hdirty) (fun _ => ?_) (.of_same hdirty) (fun _ _ => ?_)
  · simp only [State.quiet, held_of_phase hphase, hpending, hdrain, hentries]
    exact id
  · simp only [SyncedMeans, hstate, hentries, hdirty, hmarks]
    exact id

theorem refl (s : State) : KeepsAgreement s s := of_same ⟨⟨rfl, rfl, rfl, rfl, rfl⟩, rfl, rfl, rfl, rfl, rfl, rfl, rfl⟩

/-- An operation behind one that moves none of it. -/
theorem after {s t u : State} (h : KeepsAgreement t u) (hst : SameMirror s t) : KeepsAgreement s u := (of_same hst).trans h

/-- An operation followed by one that moves none of it. -/
theorem andThen {s t u : State} (h : KeepsAgreement s t) (htu : SameMirror t u) : KeepsAgreement s u := h.trans (of_same htu)

/-- An operation on the journal's entries, which appends none to an empty journal and no BLOCK entry. -/
theorem of_entries {s t : State} (hplace : SamePlace s t) (hmirror : t.mirror.state = s.mirror.state ∧
    t.mirror.pendingMark = s.mirror.pendingMark ∧ t.mirror.drain = s.mirror.drain ∧ t.dirty = s.dirty ∧
    t.sys.phase = s.sys.phase ∧ t.reports.marks = s.reports.marks)
    (hempty : s.streaming = false → s.journal.entries = [] → t.journal.entries = [])
    (hblocks : blockBuffers s.journal.entries = [] → blockBuffers t.journal.entries = []) : KeepsAgreement s t := by
  obtain ⟨hstate, hpending, hdrain, hdirty, hphase, hmarks⟩ := hmirror
  refine of_stays hplace hstate (fun _ _ => hdirty) (fun hstreaming hq => ?_) (.of_same hdirty) (fun _ _ hm h => ?_)
  · obtain ⟨hentries, hheld, hp, hd⟩ := hq
    exact ⟨hempty hstreaming hentries, (held_of_phase hphase).trans hheld, hpending.trans hp, hdrain.trans hd⟩
  · obtain ⟨hnone, hcount⟩ := hm (hstate ▸ h)
    rw [hdirty, hmarks]
    exact ⟨hblocks hnone, hcount⟩

/-- A move of the system port that leaves no write held. -/
theorem of_unheld {s t : State} (hsame : SameMirror s { t with sys := s.sys }) (hheld : t.held = false) :
    KeepsAgreement s t := by
  obtain ⟨hplace, hstate, hpending, hdrain, hentries, hdirty, -, hmarks⟩ := hsame
  refine of_stays hplace hstate (fun _ _ => hdirty) (fun _ => ?_) (.of_same hdirty) (fun _ _ => ?_)
  · rintro ⟨he, -, hp, hd⟩
    exact ⟨hentries.trans he, hheld, hpending.trans hp, hdrain.trans hd⟩
  · simp only [SyncedMeans]
    rw [show t.mirror.state = s.mirror.state from hstate, show t.journal.entries = s.journal.entries from hentries,
      show t.dirty = s.dirty from hdirty, show t.reports.marks = s.reports.marks from hmarks]
    exact id

/-- An operation need be followed in agreeing states alone, but for PORST's level and the map's form. -/
theorem of_agreeing {s t : State} (hporst : t.porst = s.porst) (hmap : KeepsMap s t)
    (h : StatesAgree s → KeepsAgreement s t) : KeepsAgreement s t :=
  ⟨hporst, fun hs => (h hs).states hs, hmap, fun hwf hs => (h hs).synced hwf hs⟩

end KeepsAgreement

theorem keepsAgreement_unlessPorst {f : State → State} (h : ∀ s, KeepsAgreement s (f s)) (s : State) :
    KeepsAgreement s (unlessPorst f s) := by
  unfold unlessPorst
  split
  · exact .refl s
  · exact h s

end Sys2Proof.Machine
end

section
/-! The system port, the copy engine, the transmitter and the mirror controller at the agreement of the states and the
meaning of SYNCED (R50 to R57, R82 to R91, R100 to R115). -/

namespace Sys2Proof.Machine

/-! ### Marks -/

theorem DirtyMap.blocks_nil_of_count {m : DirtyMap} (hwf : m.wf = true) (h : m.count = 0) : m.blocks = [] := by
  obtain ⟨-, hcount⟩ := (DirtyMap.wf_iff m).mp hwf
  exact List.length_eq_zero_iff.mp (hcount ▸ h)

/-- A mark made in SYNCED either finds a report of a clear bit on its way or is one (R33, R102). -/
theorem SyncedMeans.markDirty {s : State} (b : Block) (hwf : s.dirty.wf = true) (hm : SyncedMeans s) :
    SyncedMeans (markDirty b s) := by
  intro h
  obtain ⟨hblocks, hmap⟩ := hm h
  refine ⟨hblocks, .inr ?_⟩
  rw [markDirty_reports, List.any_append, Bool.or_eq_true]
  rcases hmap with hempty | hreport
  · simp [DirtyMap.blocks_nil_of_count hwf hempty]
  · exact .inl hreport

theorem keepsAgreement_markDirty (b : Block) {s : State} (h : s.mirror.state ≠ .disabled) :
    KeepsAgreement s (markDirty b s) :=
  .of_stays (by simp) rfl (fun hd => absurd hd h) (fun _ hq => hq) (keepsMap_markDirty b s)
    (fun _ hwf hm => hm.markDirty b hwf)

theorem keepsAgreement_examineCopy (s : State) : KeepsAgreement s (examineCopy s) := .of_same (by simp)

/-! ### The system port -/

theorem keepsAgreement_completeSystem (t : Transaction) (code : Completion) (data : Line) (s : State) :
    KeepsAgreement s (completeSystem t code data s) :=
  .of_unheld (by simp) (by simp [State.held])

theorem keepsAgreement_releaseHeld (t : Transaction) (s : State) : KeepsAgreement s (releaseHeld t s) :=
  .of_unheld (by simp) (by simp [State.held])

theorem keepsAgreement_masterTransaction (r : MasterRequest) (s : State) :
    KeepsAgreement s (masterTransaction r s) := by
  unfold masterTransaction
  split
  · exact .refl s
  · split
    · dsimp only
      split
      · exact .of_unheld (by simp) (by simp [State.held, fenceWrite])
      · exact .of_unheld (by simp) (by simp [State.held])
    · exact .refl s

theorem keepsAgreement_completionTaken (s : State) : KeepsAgreement s (completionTaken s) := by
  unfold completionTaken
  split
  · exact .of_unheld (by simp) (by simp [State.held])
  · exact .refl s

theorem keepsAgreement_mergeWrite (t : Transaction) (s : State) : KeepsAgreement s (mergeWrite t s) :=
  .of_entries (by simp) (by simp) (fun _ h => by simp [Journal.merge, h]) (fun h => by simpa using h)

theorem keepsAgreement_appendWrite (t : Transaction) {s : State} (h : s.streaming = true) :
    KeepsAgreement s (appendWrite t s) :=
  .of_entries (by simp) (by simp) (fun hnot => by simp [h] at hnot) (fun h => by simpa using h)

theorem keepsAgreement_holdWrite (t : Transaction) {s : State} (h : s.streaming = true) :
    KeepsAgreement s (holdWrite t s) :=
  .of_stays (by simp) (by simp) (fun _ _ => by simp) (fun hnot => by simp [h] at hnot) (.of_same (by simp))
    (fun _ _ hm => by simpa [SyncedMeans] using hm)

theorem keepsAgreement_markWrite (t : Transaction) {s : State} (h : s.mirror.state ≠ .disabled) :
    KeepsAgreement s (markWrite t s) :=
  ((keepsAgreement_markDirty _ h).trans (keepsAgreement_examineCopy _)).trans (keepsAgreement_completeSystem _ _ _ _)

/-- Outside DISABLED and TRACKING the origin streams (R97). -/
theorem streaming_of_ne {s : State} (hdisabled : s.mirror.state ≠ .disabled) (htracking : s.mirror.state ≠ .tracking) :
    s.streaming = true := by
  rw [streaming_iff]
  cases h : s.mirror.state <;> simp_all

theorem keepsAgreement_capture (t : Transaction) {s : State} (h : s.mirror.state ≠ .disabled) :
    KeepsAgreement s (capture t s) := by
  unfold capture
  split
  · exact keepsAgreement_markWrite t h
  · rename_i htracking
    have hstream := streaming_of_ne h htracking
    have happend := (keepsAgreement_appendWrite t hstream).trans (keepsAgreement_completeSystem t .ok 0 _)
    split
    · exact (keepsAgreement_mergeWrite t s).trans (keepsAgreement_completeSystem _ _ _ _)
    · split
      · split
        · exact happend
        · exact keepsAgreement_holdWrite t hstream
      · split
        · exact keepsAgreement_markWrite t h
        · exact happend

theorem keepsAgreement_systemAnswer (t : Transaction) (answer : MemAnswer) (data : Line) (s : State) :
    KeepsAgreement s (systemAnswer t answer data s) := by
  unfold systemAnswer originWriteOk
  dsimp only
  split
  · exact keepsAgreement_completeSystem _ _ _ s
  · split
    · split
      · split
        · rename_i hcaptured
          exact keepsAgreement_capture _ hcaptured.2
        · exact keepsAgreement_completeSystem _ _ _ s
      · exact keepsAgreement_completeSystem _ _ _ s
    · exact keepsAgreement_completeSystem _ _ _ s

theorem keepsAgreement_settleAbandoned (m : MemTransaction) (answer : MemAnswer) (s : State) :
    KeepsAgreement s (settleAbandoned m answer s) := by
  unfold settleAbandoned
  split
  · rename_i hmarked
    obtain ⟨-, -, -, -, hstate⟩ := hmarked
    exact (keepsAgreement_markDirty _ hstate).trans (keepsAgreement_examineCopy _)
  · exact .refl s

theorem keepsAgreement_systemMemoryAnswer (answer : MemAnswer) (data : Line) (s : State) :
    KeepsAgreement s (systemMemoryAnswer answer data s) := by
  unfold systemMemoryAnswer
  split
  · split
    · split
      · exact (keepsAgreement_systemAnswer _ _ _ _).after (by simp)
      · exact .of_same (by simp)
    · exact (keepsAgreement_settleAbandoned _ _ _).after (by simp)
    · exact .of_same (by simp)
    · exact .refl s
  · exact .refl s

theorem not_disabled_of_streaming {s : State} (h : s.streaming = true) : s.mirror.state ≠ .disabled := by
  rcases (streaming_iff s).mp h with h | h <;> simp [h]

/-- A write is held in a stream alone (R103). -/
theorem StatesAgree.streaming_of_held {s : State} {t : Transaction} (hs : StatesAgree s) (h : s.sys.phase = .held t) :
    s.streaming = true := by
  obtain ⟨ho, -⟩ := hs
  cases hstream : s.streaming with
  | true => rfl
  | false =>
    obtain ⟨-, hnot, -, -⟩ := ho.quiet hstream
    simp [State.held, h] at hnot

@[simp] theorem stallExpiry_porst (s : State) : (stallExpiry s).porst = s.porst := by
  unfold stallExpiry
  (repeat' split) <;> simp

theorem keepsAgreement_stallExpiry (s : State) : KeepsAgreement s (stallExpiry s) := by
  refine .of_agreeing (by simp) (keepsMap_stallExpiry s) fun hs => ?_
  unfold stallExpiry
  split
  · rename_i t hphase
    have hmarked := keepsAgreement_markDirty (blockOf t.address) (not_disabled_of_streaming (hs.streaming_of_held hphase))
    split
    · exact (hmarked.andThen (by simp)).trans (keepsAgreement_releaseHeld t _)
    · exact .refl s
  · exact .refl s

@[simp] theorem heldWriteAckReport_porst (s : State) : (heldWriteAckReport s).porst = s.porst := by
  unfold heldWriteAckReport releaseIntoJournal
  dsimp only
  (repeat' split) <;> simp

theorem keepsAgreement_heldWriteAckReport (s : State) : KeepsAgreement s (heldWriteAckReport s) := by
  refine .of_agreeing (by simp) (.of_same (by simp)) fun hs => ?_
  unfold heldWriteAckReport releaseIntoJournal
  split
  · exact .refl s
  · dsimp only
    split
    · rename_i t hphase
      have happend := keepsAgreement_appendWrite t (hs.streaming_of_held hphase)
      split
      · refine KeepsAgreement.trans ?_ (keepsAgreement_releaseHeld t _)
        split
        · exact (keepsAgreement_mergeWrite t _).after (by simp)
        · exact happend.andThen (by simp)
      · exact .of_same (by simp)
    · exact .of_same (by simp)

@[simp] theorem srstAssert_porst (s : State) : (srstAssert s).porst = s.porst := by
  unfold srstAssert settleSrst
  (repeat' split) <;> simp

theorem keepsAgreement_srstAssert (s : State) : KeepsAgreement s (srstAssert s) := by
  have hsettle : StatesAgree s → KeepsAgreement s (settleSrst s) := by
    intro hs
    unfold settleSrst
    split
    · exact .refl s
    · split <;> exact .of_same (by simp)
    · rename_i t hphase
      exact keepsAgreement_markDirty _ (not_disabled_of_streaming (hs.streaming_of_held hphase))
    · exact .refl s
  refine .of_agreeing (by simp) (keepsMap_srstAssert s) fun hs => ?_
  unfold srstAssert
  split
  · exact .refl s
  · exact (hsettle hs).trans (.of_unheld (by simp) (by simp [State.held]))

/-! ### The check for SYNCED and the removed MARKs -/

theorem keepsAgreement_checkSynced (s : State) : KeepsAgreement s (checkSynced s) := by
  unfold checkSynced
  split
  · rename_i hready
    simp only [State.readyForSynced, Bool.and_eq_true, beq_iff_eq, Bool.not_eq_true', any_isBlock_eq_false_iff] at hready
    obtain ⟨⟨hstate, hcount⟩, hblocks⟩ := hready
    exact .of_streams (by simp) (by simp [State.streaming, hstate]) (by simp [State.streaming]) (.of_same (by simp))
      (fun _ _ _ => by simp [hblocks, hcount])
  · exact .refl s

theorem keepsAgreement_takeRemovedMark (m : RemovedMark) (s : State) : KeepsAgreement s (takeRemovedMark s m) := by
  refine .of_stays (by simp) (by simp) (fun _ _ => by simp) (fun _ hq => ?_) (.of_same (by simp)) (fun _ _ hm => ?_)
  · obtain ⟨hentries, hheld, hpending, hdrain⟩ := hq
    have hclear : takeRemovedMark s m = raise .markAcked { s with mirror.lastAckedMark := m.number } := by
      simp [takeRemovedMark, hdrain]
    rw [hclear]
    exact ⟨hentries, hheld, hpending, hdrain⟩
  · simpa [SyncedMeans] using hm

theorem keepsAgreement_takeRemovedMarks (ms : List RemovedMark) (s : State) :
    KeepsAgreement s (takeRemovedMarks ms s) := by
  induction ms generalizing s with
  | nil => exact .refl s
  | cons m ms ih => exact (keepsAgreement_takeRemovedMark m s).trans (ih _)

/-! ### Mark requests and drains -/

/-- A mark request waits in a stream alone, so its append disturbs no journal that is to be empty (R111, R112). -/
theorem keepsAgreement_appendPendingMark (s : State) : KeepsAgreement s (appendPendingMark s) := by
  refine .of_stays (by simp) (by simp) (fun _ _ => by simp) (fun _ hq => ?_) (.of_same (by simp)) (fun _ _ hm => ?_)
  · obtain ⟨hentries, hheld, hpending, hdrain⟩ := hq
    have hnone : appendPendingMark s = s := by simp [appendPendingMark, hpending]
    rw [hnone]
    exact ⟨hentries, hheld, hpending, hdrain⟩
  · simpa [SyncedMeans] using hm

theorem keepsAgreement_appendAndCheck (s : State) : KeepsAgreement s (appendAndCheck s) := by
  have hboth : ∀ u, KeepsAgreement u (checkSynced (appendPendingMark u)) := fun u =>
    (keepsAgreement_appendPendingMark u).trans (keepsAgreement_checkSynced _)
  unfold appendAndCheck
  dsimp only
  split
  · split
    · exact ((keepsAgreement_checkSynced _).trans (keepsAgreement_appendPendingMark _)).after (by simp)
    · exact (hboth _).after (by simp)
  · exact hboth s

theorem keepsAgreement_mirrorAckReport (s : State) : KeepsAgreement s (mirrorAckReport s) := by
  unfold mirrorAckReport
  split
  · exact ((keepsAgreement_takeRemovedMarks _ _).trans (keepsAgreement_appendAndCheck _)).after (by simp)
  · exact .refl s

/-- In a stream whatever becomes of the mark request and the drain is in order. -/
theorem KeepsAgreement.of_request {s t : State} (hstream : s.streaming = true) (hplace : SamePlace s t)
    (h : t.mirror.state = s.mirror.state ∧ t.journal.entries = s.journal.entries ∧ t.dirty = s.dirty ∧
      t.reports.marks = s.reports.marks) : KeepsAgreement s t := by
  obtain ⟨hstate, hentries, hdirty, hmarks⟩ := h
  refine .of_stays hplace hstate (fun _ _ => hdirty) (fun hnot => by simp [hstream] at hnot) (.of_same hdirty)
    (fun _ _ hm => ?_)
  rwa [SyncedMeans, hstate, hentries, hdirty, hmarks]

theorem keepsAgreement_acceptMark (drain : Bool) {s : State} (h : s.streaming = true) :
    KeepsAgreement s (acceptMark drain s) :=
  (KeepsAgreement.of_request h (by simp) (by simp)).trans (keepsAgreement_appendPendingMark _)

theorem keepsAgreement_acceptDrain {s : State} (h : s.streaming = true) : KeepsAgreement s (acceptDrain s) :=
  (KeepsAgreement.of_request h (by simp) (by simp)).trans
    (keepsAgreement_acceptMark true (s := { s with mirror.drain := .requested, mirror.drainConsistent := false }) h)

theorem keepsAgreement_lowerDrained (s : State) : KeepsAgreement s (lowerDrained s) := .of_same (by simp)

theorem mayMark_iff (s : State) :
    s.mayMark = true ↔ s.role = .origin ∧ s.streaming = true ∧ s.mirror.pendingMark = none := by
  simp [State.mayMark, and_assoc]

theorem mayDrain_iff (s : State) : s.mayDrain = true ↔ s.role = .origin ∧ s.streaming = true ∧ s.link.state = .up ∧
    s.mirror.drain = .clear ∧ s.mirror.pendingMark = none := by
  simp [State.mayDrain, State.drainPending, and_assoc]

theorem streaming_of_mayMark {s : State} (h : s.mayMark = true) : s.streaming = true := by
  obtain ⟨-, hstream, -⟩ := (mayMark_iff s).mp h
  exact hstream

theorem streaming_of_mayDrain {s : State} (h : s.mayDrain = true) : s.streaming = true := by
  obtain ⟨-, hstream, -⟩ := (mayDrain_iff s).mp h
  exact hstream

theorem keepsAgreement_markPin (level : Bool) (s : State) : KeepsAgreement s (markPin level s) := by
  unfold markPin markPinRequest
  dsimp only
  split
  · split
    · split
      · rename_i hmay
        exact (keepsAgreement_acceptMark false (streaming_of_mayMark hmay)).after (by simp)
      · exact .of_same (by simp)
    · exact .of_same (by simp)
  · exact .of_same (by simp)

theorem keepsAgreement_drainPin (level : Bool) (s : State) : KeepsAgreement s (drainPin level s) := by
  unfold drainPin drainPinRequest
  dsimp only
  split
  · split
    · split
      · rename_i hmay
        exact (keepsAgreement_acceptDrain (streaming_of_mayDrain hmay)).after (by simp)
      · exact .of_same (by simp)
    · exact .of_same (by simp)
  · exact .of_same (by simp)

/-! ### Mark reports -/

/-- The report that SYNCED waits for takes the origin out of it; any other leaves it on its way (R101). -/
theorem keepsAgreement_dirtyMarkReport (s : State) : KeepsAgreement s (dirtyMarkReport s) := by
  unfold dirtyMarkReport
  split
  · rename_i r rest hmarks
    refine KeepsAgreement.trans ?_ (keepsAgreement_examineCopy _)
    by_cases h : s.mirror.state = .synced ∧ r.wasClear = true
    · obtain ⟨hstate, hclear⟩ := h
      rw [takeMarkReport_synced (s := { s with reports.marks := rest }) hstate hclear]
      exact .of_streams (by simp) (by simp [State.streaming, hstate]) (by simp [State.streaming]) (.of_same rfl)
        (fun _ _ hsynced => by simp at hsynced)
    · rw [takeMarkReport_other (s := { s with reports.marks := rest }) (by simpa [imp_iff_not_or] using h)]
      refine .of_stays (by simp) rfl (fun _ _ => rfl) (fun _ hq => hq) (.of_same rfl) fun hsynced _ hm _ => ?_
      obtain ⟨hblocks, hmap⟩ := hm hsynced
      have hset : r.wasClear = false := by simpa [hsynced] using h
      rw [hmarks, List.any_cons, hset, Bool.false_or] at hmap
      exact ⟨hblocks, hmap⟩
  · exact .refl s

/-! ### The copy engine -/

theorem keepsAgreement_presentRead (s : State) : KeepsAgreement s (presentRead s) := .of_same (by simp)

/-- A start reserves in RESYNCING alone, where a BLOCK entry is in order (R86). -/
theorem keepsAgreement_reserveCopy (b : Block) (i : Fin 4) {s : State} (h : s.mirror.state = .resyncing) :
    KeepsAgreement s (reserveCopy b i s) :=
  .of_stays (by simp) (by simp) (fun _ _ => by simp) (fun hnot => by simp [State.streaming, h] at hnot)
    (.of_same (by simp)) (fun hsynced => by simp [h] at hsynced)

theorem keepsAgreement_startTaken (b : Block) {s : State} (h : s.mirror.state ≠ .disabled) :
    KeepsAgreement s (startTaken b s) := by
  unfold startTaken
  split
  · split
    · rename_i hreserves
      exact (keepsAgreement_reserveCopy b _ hreserves.1).trans (keepsAgreement_presentRead _)
    · exact keepsAgreement_markDirty b h
  · exact keepsAgreement_markDirty b h

/-- The block that a take-next finds is none of an empty map's, so the report of its mark is on its way (R37, R102). -/
theorem keepsAgreement_takeNext {s : State} {b : Block} {m : DirtyMap} (h : s.dirty.takeNext = some (b, m)) :
    KeepsAgreement s { s with copy.pendingStart := false, dirty := m } := by
  obtain ⟨-, hmem, -, -, -⟩ := s.dirty.takeNext_some m b h
  refine .of_stays (by simp) rfl (fun _ hnil => by simp [hnil] at hmem) (fun _ hq => hq) (.of_takeNext h)
    fun hsynced hwf hm _ => ?_
  obtain ⟨hblocks, hmap⟩ := hm hsynced
  refine ⟨hblocks, .inr (hmap.resolve_left fun hcount => ?_)⟩
  simp [DirtyMap.blocks_nil_of_count hwf hcount] at hmem

@[simp] theorem takeCopyStart_porst (s : State) : (takeCopyStart s).porst = s.porst := by
  unfold takeCopyStart
  dsimp only
  (repeat' split) <;> simp

theorem keepsAgreement_takeCopyStart (s : State) : KeepsAgreement s (takeCopyStart s) := by
  refine .of_agreeing (by simp) (keepsMap_takeCopyStart s) fun ⟨ho, _⟩ => ?_
  unfold takeCopyStart
  split
  · dsimp only
    split
    · exact ((keepsAgreement_checkSynced _).trans (keepsAgreement_examineCopy _)).after (by simp)
    · rename_i b m hnext
      have hstate : s.mirror.state ≠ .disabled := fun hdisabled => by
        obtain ⟨hnil, -⟩ := ho.cleared hdisabled
        simp [(DirtyMap.takeNext_none s.dirty).mpr hnil] at hnext
      exact ((keepsAgreement_takeNext hnext).trans (keepsAgreement_startTaken b hstate)).trans
        (keepsAgreement_examineCopy _)
  · exact .refl s

theorem completeBlock_nil (seq : Seq) (b : Fin 4) (status : CopyStatus) {j : Journal} (h : j.entries = []) :
    (j.completeBlock seq b status).entries = [] := by
  simp [Journal.completeBlock, h]

/-- The end of a copy completes a BLOCK entry and adds none (R91). -/
theorem keepsAgreement_endCopy (r : CopyRecord) (s : State) : KeepsAgreement s (endCopy r s) := by
  obtain ⟨⟨hblocks, -⟩, -⟩ := sameStores_endCopy r s
  refine .of_entries (by simp) (by simp) (fun _ hnil => ?_) (fun hnone => hblocks.trans hnone)
  unfold endCopy
  dsimp only
  split <;> exact completeBlock_nil _ _ _ hnil

theorem keepsAgreement_takeLine (r : CopyRecord) (answer : MemAnswer) (data : Line) (s : State) :
    KeepsAgreement s (takeLine r answer data s) := by
  unfold takeLine
  cases answer <;> dsimp only <;> split
  · exact (keepsAgreement_endCopy _ _).after (by simp)
  · exact .of_same (by simp)
  · exact keepsAgreement_endCopy _ _
  · exact .of_same (by simp)

theorem keepsAgreement_lineReadAnswer (answer : MemAnswer) (data : Line) (s : State) :
    KeepsAgreement s (lineReadAnswer answer data s) := by
  unfold lineReadAnswer copyAnswer
  split
  · split
    · dsimp only
      split
      · split
        · exact ((keepsAgreement_takeLine _ _ _ _).trans (keepsAgreement_presentRead _)).after (by simp)
        · exact (keepsAgreement_presentRead _).after (by simp)
      · exact .of_same (by simp)
    · exact .refl s
  · exact .refl s

theorem keepsAgreement_pacingExpiry (s : State) : KeepsAgreement s (pacingExpiry s) := by
  unfold pacingExpiry
  split <;> exact .of_same (by simp)

/-! ### The transmitter -/

theorem keepsAgreement_offerLoad (s : State) : KeepsAgreement s (offerLoad s) := by
  have hloaded : ∀ u, u.journal.entries = s.journal.loaded.entries → SameMirror s { u with journal := s.journal } →
      KeepsAgreement s u := fun u hentries hsame => by
    obtain ⟨hplace, hstate, hpending, hdrain, -, hrest⟩ := hsame
    exact .of_entries hplace ⟨hstate, hpending, hdrain, hrest⟩ (fun _ h => by rw [hentries]; simp [Journal.loaded, h])
      (fun h => by rw [hentries]; simpa using h)
  unfold offerLoad takeLoad
  dsimp only
  split
  · split
    · split
      · split <;> exact hloaded _ (by simp) (by simp)
      · exact .refl s
    · exact .refl s
  · exact .refl s

theorem keepsAgreement_frameBoundary (s : State) : KeepsAgreement s (frameBoundary s) := by
  unfold frameBoundary
  split <;> exact .of_same (by simp)

theorem keepsAgreement_frameEnd (s : State) : KeepsAgreement s (frameEnd s) := by
  unfold frameEnd
  split <;> exact .of_same (by simp)

theorem keepsAgreement_breakStart (s : State) : KeepsAgreement s (breakStart s) := by
  unfold breakStart
  (repeat' split) <;> exact .of_same (by simp)

theorem keepsAgreement_breakEnd (s : State) : KeepsAgreement s (breakEnd s) := by
  unfold breakEnd
  split <;> exact .of_same (by simp)

/-! ### The apply engine -/

theorem keepsAgreement_applyTakeFrame (s : State) : KeepsAgreement s (applyTakeFrame s) := by
  unfold applyTakeFrame
  (repeat' split) <;> exact .of_same (by simp)

theorem keepsAgreement_applyWriteAnswer (answer : MemAnswer) (s : State) :
    KeepsAgreement s (applyWriteAnswer answer s) := by
  unfold applyWriteAnswer
  dsimp only
  (repeat' split) <;> exact .of_same (by simp)

end Sys2Proof.Machine
end

section
/-! The link at the agreement of the states and the meaning of SYNCED (R97, R100, R103, R137 to R166). -/

namespace Sys2Proof.Machine

/-! ### Out of UP -/

/-- Outside UP nothing is streamed (R97). -/
theorem StatesAgree.notStreaming {s : State} (hs : StatesAgree s) (h : s.link.state ≠ .up) : s.streaming = false := by
  rw [← Bool.not_eq_true]
  exact fun hstream => h (hs.1.streams hstream).2

/-- A replica outside UP has session 0 and does not apply (R139, R162). -/
theorem StatesAgree.replicaOutside {s : State} (hs : StatesAgree s) (hrole : s.role = .replica)
    (h : s.link.state ≠ .up) : s.link.session = 0 ∧ s.mirror.replica ≠ .applying := by
  obtain ⟨-, hr⟩ := hs
  exact ⟨by_contra fun hsession => h ((hr.session hrole).mp hsession), fun happlies => h ((hr.applies hrole).mp happlies)⟩

/-- An operation that only moves the link, to a state that is not UP, with nothing streamed. -/
theorem KeepsAgreement.of_outOfUp {s t : State}
    (hsame : SameMirror s { t with link := s.link, mirror.replica := s.mirror.replica }) (hstream : s.streaming = false)
    (hlink : t.link.state ≠ .up) (horigin : s.role = .origin → t.mirror.replica = s.mirror.replica)
    (hreplica : s.role = .replica → t.link.session = 0 ∧ t.link.state ≠ .down ∧ t.mirror.replica ≠ .applying) :
    KeepsAgreement s t := by
  obtain ⟨⟨hporst, hrole, -⟩, hstate, hpending, hdrain, hentries, hdirty, hphase, hmarks⟩ := hsame
  simp only at hporst hrole hstate hpending hdrain hentries hdirty hphase hmarks
  have hnot : t.streaming = false := (streaming_of_state hstate).trans hstream
  refine ⟨hporst, fun ⟨ho, hr⟩ => ⟨⟨?_, ?_, ?_, fun _ => ?_⟩, ⟨?_, ?_, ?_, ?_⟩⟩, .of_same hdirty, fun _ _ _ h => ?_⟩
  · simp [hnot]
  · rw [hstate, hrole]
    exact fun h => ⟨(ho.tracks h).1, hlink⟩
  · rw [hstate, hdirty]
    exact ho.cleared
  · obtain ⟨he, hh, hp, hd⟩ := ho.quiet hstream
    exact ⟨hentries.trans he, (held_of_phase hphase).trans hh, hpending.trans hp, hdrain.trans hd⟩
  · rw [hrole]
    exact fun h => (horigin h).trans (hr.idle h)
  · rw [hrole]
    intro h
    obtain ⟨-, -, happlies⟩ := hreplica h
    exact iff_of_false happlies hlink
  · rw [hrole]
    intro h
    obtain ⟨hsession, -, -⟩ := hreplica h
    exact iff_of_false (fun hne => hne hsession) hlink
  · rw [hrole]
    intro h
    obtain ⟨-, hdown, -⟩ := hreplica h
    exact hdown
  · exact absurd ((streaming_iff t).mpr (.inr h)) (by simp [hnot])

/-- A move of the link from a state that is not UP to another that is not. -/
theorem KeepsAgreement.of_linkMove {s t : State} (hsame : SameMirror s { t with link := s.link })
    (hs : StatesAgree s) (hfrom : s.link.state ≠ .up) (hto : t.link.state ≠ .up)
    (hreplica : s.role = .replica → s.link.session = 0 → t.link.session = 0 ∧ t.link.state ≠ .down) :
    KeepsAgreement s t := by
  obtain ⟨⟨hporst, hrole, -, -, hrep⟩, hrest⟩ := id hsame
  refine .of_outOfUp ⟨⟨hporst, hrole, rfl, rfl, rfl⟩, hrest⟩ (hs.notStreaming hfrom) hto (fun _ => hrep) fun h => ?_
  obtain ⟨hsession, hnot⟩ := hs.replicaOutside h hfrom
  obtain ⟨hzero, hdown⟩ := hreplica h hsession
  exact ⟨hzero, hdown, fun happlies => hnot (hrep ▸ happlies)⟩

theorem enterDown_link (s : State) : (enterDown s).link.session = s.link.session ∧ (enterDown s).link.state ≠ .up ∧
    (s.role = .replica → (enterDown s).link.state ≠ .down) := by
  unfold enterDown
  split <;> simp_all

theorem keepsAgreement_enterDown {s : State} (h : s.link.state ≠ .up) : KeepsAgreement s (enterDown s) := by
  obtain ⟨hsession, hup, hdown⟩ := enterDown_link s
  exact .of_agreeing (by simp) (.of_same (by simp)) fun hs =>
    .of_linkMove (by simp) hs h hup fun hrole hzero => ⟨hsession.trans hzero, hdown hrole⟩

theorem enterOff_link (s : State) : (enterOff s).link.state = .off ∧
    (s.role = .replica → (enterOff s).link.session = 0) := by
  refine ⟨by simp [enterOff], fun hrole => ?_⟩
  simp [enterOff, clearReplicaSession, hrole]

theorem keepsAgreement_enterOff {s : State} (h : s.link.state ≠ .up) : KeepsAgreement s (enterOff s) := by
  obtain ⟨hoff, hsession⟩ := enterOff_link s
  exact .of_agreeing (by simp) (.of_same (by simp)) fun hs =>
    .of_linkMove (by simp) hs h (by simp [hoff]) fun hrole _ => ⟨hsession hrole, by simp [hoff]⟩

/-- No replica is in DOWN, so the end of a holdoff is the origin's (R141, R142). -/
theorem keepsAgreement_enterConnecting {s : State} (h : s.link.state = .down) : KeepsAgreement s (enterConnecting s) :=
  .of_agreeing (by simp) (.of_same (by simp)) fun hs =>
    .of_linkMove (by simp) hs (by simp [h]) (by simp [enterConnecting_eq]) fun hrole _ => absurd h (hs.2.notDown hrole)

/-! ### The link leaves UP -/

/-- The link's own part in leaving UP, before the mirror controller hears of it (R156, R158, R160). -/
def linkOutOfUp (dest : LeaveTo) (withBreak counted : Bool) (s : State) : State :=
  enterAfterUp dest (transmitterLeavesUp withBreak
    (clearReplicaSession (stopSession (if counted then countLinkDown s else s))))

theorem leaveUp_eq (dest : LeaveTo) (withBreak counted : Bool) (s : State) :
    leaveUp dest withBreak counted s = reportLeftUp (linkOutOfUp dest withBreak counted s) := rfl

theorem linkOutOfUp_same (dest : LeaveTo) (withBreak counted : Bool) (s : State) :
    SameMirror s { linkOutOfUp dest withBreak counted s with link := s.link } := by
  unfold linkOutOfUp
  split <;> simp

theorem enterAfterUp_link {s : State} (dest : LeaveTo) : (enterAfterUp dest s).link.state ≠ .up ∧
    (s.role = .replica → s.link.session = 0 → (enterAfterUp dest s).link.session = 0 ∧
      (enterAfterUp dest s).link.state ≠ .down) := by
  cases dest with
  | down =>
    obtain ⟨hsession, hup, hdown⟩ := enterDown_link s
    exact ⟨hup, fun hrole hzero => ⟨hsession.trans hzero, hdown hrole⟩⟩
  | off =>
    obtain ⟨hoff, hsession⟩ := enterOff_link s
    exact ⟨by simp [enterAfterUp, hoff], fun hrole _ => ⟨hsession hrole, by simp [enterAfterUp, hoff]⟩⟩
  | connecting => cases hrole : s.role <;> simp [enterAfterUp, hrole, enterConnecting_eq]

theorem linkOutOfUp_link (dest : LeaveTo) (withBreak counted : Bool) (s : State) :
    (linkOutOfUp dest withBreak counted s).link.state ≠ .up ∧
      (s.role = .replica → (linkOutOfUp dest withBreak counted s).link.session = 0 ∧
        (linkOutOfUp dest withBreak counted s).link.state ≠ .down) := by
  obtain ⟨hup, hreplica⟩ := enterAfterUp_link (s := transmitterLeavesUp withBreak
    (clearReplicaSession (stopSession (if counted then countLinkDown s else s)))) dest
  refine ⟨hup, fun hrole => hreplica ?_ ?_⟩
  · cases counted <;> simpa using hrole
  · cases counted <;> simp [clearReplicaSession, hrole]

/-- After the link-loss transition the part is an origin in TRACKING with nothing in its stores but the map (R103). -/
theorem originAgrees_linkLossTransition {s : State} (hrole : s.role = .origin) (hlink : s.link.state ≠ .up) :
    OriginAgrees (linkLossTransition s) := by
  have hheld : (linkLossTransition s).held = false := by
    rw [State.held, linkLossTransition_sys]
    cases hphase : s.sys.phase <;> simp [hphase]
  exact ⟨by simp [State.streaming], by simp [hrole, hlink], by simp,
    fun _ => ⟨by simp [Journal.emptied], hheld, by simp, by simp⟩⟩

theorem reportLeftUp_origin {s : State} (hrole : s.role = .origin) :
    reportLeftUp s = if s.streaming then linkLossTransition s else s := by
  rw [reportLeftUp, hrole]
  exact originLeftUp_eq s

theorem reportLeftUp_replica {s : State} (hrole : s.role = .replica) : reportLeftUp s = replicaLeftUp s := by
  rw [reportLeftUp, hrole]

/-- A replica that hears that the link left UP applies no more (R166). -/
theorem replicaLeftUp_notApplying (s : State) : (replicaLeftUp s).mirror.replica ≠ .applying := by
  rw [replicaLeftUp_mirror]
  split <;> simp_all

theorem keepsAgreement_leaveUp (dest : LeaveTo) (withBreak counted : Bool) (s : State) :
    KeepsAgreement s (leaveUp dest withBreak counted s) := by
  refine .of_agreeing (by simp) (keepsMap_leaveUp dest withBreak counted s) fun hs => ?_
  have hsame := linkOutOfUp_same dest withBreak counted s
  obtain ⟨hup, hreplica⟩ := linkOutOfUp_link dest withBreak counted s
  have hmap := keepsMap_leaveUp dest withBreak counted s
  have hporst : (leaveUp dest withBreak counted s).porst = s.porst := by simp
  rw [leaveUp_eq] at hmap hporst ⊢
  generalize linkOutOfUp dest withBreak counted s = u at *
  obtain ⟨⟨hp, hrole, -, -, hrep⟩, hstate, hrest⟩ := id hsame
  simp only at hp hrole hrep hstate
  cases hpart : s.role with
  | origin =>
    have hpart' : u.role = .origin := hrole.trans hpart
    rw [reportLeftUp_origin hpart', streaming_of_state hstate] at hmap hporst ⊢
    cases hstream : s.streaming with
    | true =>
      simp only [hstream, if_true] at hmap hporst ⊢
      refine ⟨hporst, fun _ => ⟨originAgrees_linkLossTransition hpart' hup, ?_⟩, hmap, fun _ _ _ h => by simp at h⟩
      exact ⟨fun _ => by simpa [hrep] using hs.2.idle hpart, by simp [hpart'], by simp [hpart'], by simp [hpart']⟩
    | false =>
      simp only [Bool.false_eq_true, if_false]
      exact .of_outOfUp ⟨⟨hp, hrole, rfl, rfl, rfl⟩, hstate, hrest⟩ hstream hup (fun _ => hrep) (by simp [hpart])
  | replica =>
    have hstream : s.streaming = false := by
      rw [← Bool.not_eq_true]
      exact fun h => absurd (hs.1.streams h).1 (by simp [hpart])
    obtain ⟨hsession, hdown⟩ := hreplica hpart
    rw [reportLeftUp_replica (hrole.trans hpart)]
    obtain ⟨hpending, hdrain, hentries, hdirty, hphase, hmarks⟩ := hrest
    exact .of_outOfUp (by simp_all) hstream (by simpa using hup) (by simp [hpart])
      fun _ => ⟨by simpa using hsession, by simpa using hdown, replicaLeftUp_notApplying u⟩

theorem keepsAgreement_silenceExpiry (s : State) : KeepsAgreement s (silenceExpiry s) := by
  unfold silenceExpiry
  split
  · exact keepsAgreement_leaveUp _ _ _ s
  · exact .refl s

theorem keepsAgreement_ackExpiry (s : State) : KeepsAgreement s (ackExpiry s) := by
  have hstep : KeepsAgreement s (ackTimeoutStep s) := .of_same (by simp [ackTimeoutStep, rewindTo_eq])
  unfold ackExpiry
  dsimp only
  split
  · split
    · exact hstep.trans (keepsAgreement_leaveUp _ _ _ _)
    · exact hstep
  · exact .refl s

theorem keepsAgreement_breakDetected (s : State) : KeepsAgreement s (breakDetected s) := by
  have hstopBit : SameMirror s (breakStopBit s) := by
    unfold breakStopBit
    split <;> simp
  unfold breakDetected takeBreakReport
  dsimp only
  split
  · exact .refl s
  · split
    · exact (keepsAgreement_leaveUp _ _ _ _).after hstopBit
    · exact .of_same hstopBit

theorem keepsAgreement_renewSession (s : State) : KeepsAgreement s (renewSession s) := by
  unfold renewSession
  split
  · exact keepsAgreement_leaveUp _ _ _ s
  · exact .refl s

theorem keepsAgreement_resetLink (s : State) : KeepsAgreement s (resetLink s) := by
  unfold resetLink
  split
  · exact keepsAgreement_leaveUp _ _ _ s
  · rename_i hup
    exact (keepsAgreement_enterDown (by simpa using hup)).after (by simp)

theorem keepsAgreement_setEnable (v : Bool) (s : State) : KeepsAgreement s (setEnable v s) := by
  unfold setEnable setLinkEnable clearLinkEnable
  dsimp only
  split
  · split
    · rename_i hoff
      exact (keepsAgreement_enterDown (by simp [hoff])).after (by simp)
    · exact .of_same (by simp)
  · split
    · exact (keepsAgreement_leaveUp _ _ _ _).after (by simp)
    · rename_i hdown
      exact (keepsAgreement_enterOff (by simp [hdown])).after (by simp)
    · rename_i hconnecting
      exact (keepsAgreement_enterOff (by simp [hconnecting])).after (by simp)
    · exact .of_same (by simp)

theorem keepsAgreement_helloKeepaliveExpiry (s : State) : KeepsAgreement s (helloKeepaliveExpiry s) := by
  unfold helloKeepaliveExpiry
  dsimp only
  split
  · split
    · rename_i hdown
      exact (keepsAgreement_enterConnecting (s := { s with link.helloTimer := none }) hdown).after (by simp)
    all_goals exact .of_same (by simp)
  · exact .refl s

end Sys2Proof.Machine
end

section
/-! Frames received, the resets and the commands of the service port at the agreement of the states and the meaning of
SYNCED, and every step's keeping of both (R97, R99 to R105, R139, R146, R162 to R164, R193). -/

namespace Sys2Proof.Machine

/-! ### Frames received -/

theorem keepsAgreement_receiverAlign (s : State) : KeepsAgreement s (receiverAlign s) := by
  unfold receiverAlign
  split <;> exact .of_same (by simp)

theorem keepsAgreement_rxFraming (c : FramingCheck) (s : State) : KeepsAgreement s (rxFraming c s) := by
  unfold rxFraming
  (repeat' split) <;> exact .of_same (by simp)

theorem keepsAgreement_rxTruncation (s : State) : KeepsAgreement s (rxTruncation s) := by
  unfold rxTruncation
  split <;> exact .of_same (by simp)

/-- A frame that passes the checks of the part's role is disposed of; any other is discarded (R131, R132). -/
theorem keepsAgreement_receiveBytes {dispose : Frame → State → State} {bytes : List Byte}
    (h : ∀ f s, judgeBytes s.role bytes = .valid f → KeepsAgreement s (dispose f s)) (s : State) :
    KeepsAgreement s (receiveBytes dispose bytes s) := by
  unfold receiveBytes
  split
  · split
    · exact .of_same (by simp)
    · exact .of_same (by simp)
    · exact .of_same (by simp)
    · rename_i f hvalid
      exact (h f { s with rx.phase := .between } hvalid).after (by simp)
  · exact .refl s

@[simp] theorem placeFrame_place (f : Frame) (bytes : List Byte) (s : State) :
    (placeFrame f bytes s).link.state = s.link.state ∧ (placeFrame f bytes s).link.session = s.link.session := by
  unfold placeFrame
  dsimp only
  split <;> simp

theorem keepsAgreement_disposeData (bytes : List Byte) (f : Frame) (s : State) :
    KeepsAgreement s (disposeData bytes f s) := by
  unfold disposeData
  split <;> exact .of_same (by simp)

/-! ### ACK and NAK -/

theorem keepsAgreement_acknowledgeThrough (n : Seq) (s : State) : KeepsAgreement s (acknowledgeThrough n s) := by
  have hentries : (acknowledgeThrough n s).journal.entries = s.journal.entries.drop (s.journal.removedBy n).length := by
    rw [acknowledgeThrough_journal]
    rfl
  refine .of_entries (by simp) (by simp) (fun _ hnil => by simp [hentries, hnil]) (fun hnone => ?_)
  rw [hentries]
  rw [← List.take_append_drop (s.journal.removedBy n).length s.journal.entries, blockBuffers_append] at hnone
  exact (List.append_eq_nil_iff.mp hnone).2

theorem keepsAgreement_rewindTo (target : Seq) (s : State) : KeepsAgreement s (rewindTo target s) := by
  rw [rewindTo_eq]
  exact .of_same (by simp)

theorem keepsAgreement_disposeAck (f : Frame) (s : State) : KeepsAgreement s (disposeAck f s) := by
  unfold disposeAck takeAck
  dsimp only
  split
  · split
    · split
      · exact (keepsAgreement_acknowledgeThrough _ _).after (by simp)
      · exact .of_same (by simp)
    · exact .of_same (by simp)
  · exact .refl s

theorem keepsAgreement_disposeNak (f : Frame) (s : State) : KeepsAgreement s (disposeNak f s) := by
  unfold disposeNak takeNak
  dsimp only
  split
  · split
    · split
      · exact ((keepsAgreement_acknowledgeThrough _ _).trans (keepsAgreement_rewindTo _ _)).after (by simp)
      · exact .of_same (by simp)
    · exact .of_same (by simp)
  · exact .refl s

/-! ### HELLO and HELLO_ACK -/

/-- In DISABLED the origin's side speaks of the stores alone, not of role, link or PORST (R97). -/
theorem OriginAgrees.of_disabled {s t : State} (h : s.mirror.state = .disabled)
    (hsame : SameMirror s { t with
      porst := s.porst, role := s.role, link := s.link, mirror.replica := s.mirror.replica })
    (ho : OriginAgrees s) : OriginAgrees t := by
  obtain ⟨-, hstate, hpending, hdrain, hentries, hdirty, hphase, -⟩ := hsame
  simp only at hstate hpending hdrain hentries hdirty hphase
  have hdisabled : t.mirror.state = .disabled := hstate.trans h
  obtain ⟨he, hh, hp, hd⟩ := ho.quiet (by simp [State.streaming, h])
  refine ⟨fun hstream => by simp [State.streaming, hdisabled] at hstream, by simp [hdisabled], fun _ => ?_, fun _ => ?_⟩
  · rw [hdirty]
    exact ho.cleared h
  · exact ⟨hentries.trans he, (held_of_phase hphase).trans hh, hpending.trans hp, hdrain.trans hd⟩

/-- An operation that a DISABLED origin or a replica takes on link and replica state. -/
theorem KeepsAgreement.of_disabled {s t : State} (h : StatesAgree s → s.mirror.state = .disabled)
    (hsame : SameMirror s { t with link := s.link, mirror.replica := s.mirror.replica })
    (hreplica : StatesAgree s → ReplicaAgrees t) : KeepsAgreement s t := by
  obtain ⟨⟨hporst, -⟩, hstate, -, -, -, hdirty, -⟩ := id hsame
  refine ⟨hporst, fun hs => ⟨hs.1.of_disabled (h hs) ?_, hreplica hs⟩, .of_same hdirty, fun _ hs _ hsynced => ?_⟩
  · obtain ⟨⟨-, hrole, -⟩, hrest⟩ := hsame
    exact ⟨⟨rfl, rfl, rfl, rfl, rfl⟩, hrest⟩
  · rw [show t.mirror.state = s.mirror.state from hstate, h hs] at hsynced
    cases hsynced

/-- A replica's origin state is DISABLED (R97). -/
theorem StatesAgree.disabled_of_replica {s : State} (hs : StatesAgree s) (hrole : s.role = .replica) :
    s.mirror.state = .disabled := by
  obtain ⟨ho, -⟩ := hs
  by_contra hne
  have hnot : s.mirror.state ≠ .tracking := fun h => absurd (ho.tracks h).1 (by simp [hrole])
  exact absurd (ho.streams (streaming_of_ne hne hnot)).1 (by simp [hrole])

/-- A HELLO answered in CONNECTING or UP leaves the replica applying in UP, in the HELLO's session (R146, R165). -/
theorem answerHello_place (f : Frame) {s : State} (h : s.link.state = .connecting ∨ s.link.state = .up) :
    (answerHello f s).link.state = .up ∧ (answerHello f s).link.session = f.session ∧
      (answerHello f s).mirror.replica =
        if s.link.state = .connecting ∧ s.mirror.replica = .listening then .applying else s.mirror.replica := by
  unfold answerHello
  dsimp only
  rcases h with h | h
  · cases hreplica : s.mirror.replica <;> simp [h, hreplica, replicaReachedUp]
  · simp [h]

theorem keepsAgreement_answerHello (f : Frame) {s : State} (hanswers : s.answersHello = true) (hf : f.session ≠ 0) :
    KeepsAgreement s (answerHello f s) := by
  simp only [State.answersHello, Bool.and_eq_true, Bool.or_eq_true, beq_iff_eq, bne_iff_ne] at hanswers
  obtain ⟨hlink, hactive⟩ := hanswers
  obtain ⟨hup, hsession, hreplica⟩ := answerHello_place f hlink
  have hrole : StatesAgree s → s.role = .replica := fun hs => by
    cases hrole : s.role with
    | origin => exact absurd (hs.2.idle hrole) hactive
    | replica => rfl
  refine .of_disabled (fun hs => hs.disabled_of_replica (hrole hs)) (by simp) fun hs => ?_
  have happlies : (answerHello f s).mirror.replica = .applying := by
    rw [hreplica]
    rcases hlink with hc | hu
    · cases hstate : s.mirror.replica <;> simp_all
    · rw [if_neg (by simp [hu])]
      exact (hs.2.applies (hrole hs)).mpr hu
  refine ⟨fun h => ?_, fun _ => iff_of_true happlies hup, fun _ => iff_of_true (by rwa [hsession]) hup, fun _ => by simp [hup]⟩
  simp [hrole hs] at h

theorem keepsAgreement_disposeHello (f : Frame) (s : State) : KeepsAgreement s (disposeHello f s) := by
  unfold disposeHello takeHello
  split
  · split
    · rename_i hanswers
      split
      · exact .of_same (by simp)
      · rename_i hf
        exact keepsAgreement_answerHello f hanswers hf
    · split
      · exact .of_same (by simp)
      · exact .refl s
  · exact .refl s

/-- A valid frame is of a kind that the role receives, as its bytes spell it (R131, R132). -/
theorem kindAccepted_of_valid {role : Role} {bytes : List Byte} {f : Frame} (h : judgeBytes role bytes = .valid f) :
    ∃ code flags, kindAccepted role code = true ∧ decodeBody bytes code flags = some f.body := by
  unfold judgeBytes at h
  split at h
  · dsimp only at h
    split at h; · simp at h
    split at h; · simp at h
    split at h; · simp at h
    split at h; · simp at h
    rename_i hkind _ _ _
    split at h
    · simp at h
    · rename_i body hdecode
      simp only [RxVerdict.valid.injEq] at h
      exact ⟨_, _, by simpa using hkind, by rw [hdecode, ← h]⟩
  · simp at h

theorem code_of_helloAck {bytes : List Byte} {code : BitVec 4} {flags : Byte} {fresh : Bool}
    (h : decodeBody bytes code flags = some (.helloAck fresh)) : code = 8 := by
  unfold decodeBody at h
  dsimp only at h
  split at h; · simp at h
  split at h; · split at h <;> simp at h
  split at h; · (repeat' split at h) <;> simp at h
  split at h; · simp at h
  split at h; · simp at h
  split at h; · assumption
  (repeat' split at h) <;> simp at h

/-- A HELLO_ACK is no frame that a replica takes (R131). -/
theorem role_of_helloAck {role : Role} {bytes : List Byte} {f : Frame} {fresh : Bool}
    (hvalid : judgeBytes role bytes = .valid f) (hbody : f.body = .helloAck fresh) : role = .origin := by
  obtain ⟨code, flags, hkind, hdecode⟩ := kindAccepted_of_valid hvalid
  rw [code_of_helloAck (hdecode.trans (congrArg some hbody))] at hkind
  cases role with
  | origin => rfl
  | replica => exact absurd hkind (by decide)

/-- An origin that streams with the link UP agrees, whatever its stores hold. -/
theorem statesAgree_of_streaming {s : State} (hstream : s.streaming = true) (hrole : s.role = .origin)
    (hlink : s.link.state = .up) (hreplica : s.mirror.replica = .disabled) : StatesAgree s := by
  refine ⟨⟨fun _ => ⟨hrole, hlink⟩, fun h => ?_, fun h => ?_, fun h => ?_⟩, ⟨fun _ => hreplica, ?_, ?_, ?_⟩⟩
  · simp [State.streaming, h] at hstream
  · simp [State.streaming, h] at hstream
  · simp [hstream] at h
  all_goals simp [hrole]

/-- The part that reaches UP in TRACKING, seeded first for a fresh partner (R100). -/
def partnerSeeded (s : State) : State := if s.link.partnerFresh then seedDirty { s with mirror.incomplete := false } else s

theorem originReachedUp_tracking {s : State} (h : s.mirror.state = .tracking) :
    originReachedUp s =
      if 0 < (partnerSeeded s).dirty.count then examineCopy { partnerSeeded s with mirror.state := .resyncing }
      else raise .synced { partnerSeeded s with mirror.state := .synced } := by
  unfold originReachedUp
  split
  · rfl
  all_goals
    rename_i hstate
    rw [h] at hstate
    cases hstate

/-- From TRACKING an origin that reaches UP streams; it is SYNCED with no block dirty (R100). -/
theorem originReachedUp_streams {s : State} (h : s.mirror.state = .tracking) :
    (originReachedUp s).streaming = true ∧
      ((originReachedUp s).mirror.state = .synced → (originReachedUp s).dirty.count = 0) := by
  rw [originReachedUp_tracking h]
  split
  · simp [State.streaming]
  · rename_i hcount
    exact ⟨by simp [State.streaming], fun _ => by simpa using hcount⟩

theorem originReachedUp_disabled {s : State} (h : s.mirror.state = .disabled) : originReachedUp s = s := by
  simp [originReachedUp, h]

theorem keepsAgreement_originEnterUp (fresh : Bool) {s : State} (hrole : s.role = .origin)
    (hlink : s.link.state = .connecting) : KeepsAgreement s (originEnterUp fresh s) := by
  have hmap : KeepsMap s (originEnterUp fresh s) := KeepsMap.after (keepsMap_originReachedUp _) (by simp)
  refine .of_agreeing (by simp) hmap fun hs => ?_
  have hnot := hs.notStreaming (by simp [hlink])
  cases hstate : s.mirror.state with
  | disabled =>
    have hstays : originEnterUp fresh s = raise .linkUp { s with
        tx.slot := dropHello s.tx.slot
        link := { s.link with
          state := .up, helloTimer := s.keepalive, silenceTimer := s.silence, ackTimer := none, timeouts := 0
          partnerFresh := fresh } } := originReachedUp_disabled (by simp [hstate])
    rw [hstays]
    exact .of_disabled (fun _ => hstate) (by simp) fun hs =>
      ⟨fun _ => by simpa using hs.2.idle hrole, by simp [hrole], by simp [hrole], by simp [hrole]⟩
  | tracking =>
    obtain ⟨hstream, hcount⟩ := originReachedUp_streams (s := raise .linkUp { s with
        tx.slot := dropHello s.tx.slot
        link := { s.link with
          state := .up, helloTimer := s.keepalive, silenceTimer := s.silence, ackTimer := none, timeouts := 0
          partnerFresh := fresh } }) (by simp [hstate])
    obtain ⟨hentries, -⟩ := hs.1.quiet hnot
    refine ⟨by simp, fun _ => statesAgree_of_streaming hstream (by simp [hrole]) (by simp [originEnterUp]) ?_, hmap,
      fun _ _ _ hsynced => ⟨by simp [originEnterUp, hentries, blockBuffers], .inl (hcount hsynced)⟩⟩
    simpa [originEnterUp] using hs.2.idle hrole
  | resyncing => simp [State.streaming, hstate] at hnot
  | synced => simp [State.streaming, hstate] at hnot

theorem keepsAgreement_disposeHelloAck {bytes : List Byte} (f : Frame) (s : State)
    (hvalid : judgeBytes s.role bytes = .valid f) : KeepsAgreement s (disposeHelloAck f s) := by
  unfold disposeHelloAck takeHelloAck
  split
  · rename_i fresh hbody
    split
    · rename_i hconnecting
      split
      · exact keepsAgreement_originEnterUp fresh (role_of_helloAck hvalid hbody) hconnecting
      · exact .of_same (by simp)
    · split <;> exact .of_same (by simp)
    · exact .of_same (by simp)
    · exact .of_same (by simp)
  · exact .refl s

/-! ### Resets -/

/-- The values after PORST agree (R97, R137, R138, R162). -/
theorem statesAgree_of_reset {t : State} (hmirror : t.mirror = Mirror.reset) (hjournal : t.journal = Journal.reset)
    (hdirty : t.dirty = DirtyMap.empty) (hlink : t.link = Session.reset) (hheld : t.held = false) : StatesAgree t := by
  refine ⟨⟨?_, ?_, fun _ => ?_, fun _ => ?_⟩, ⟨?_, ?_, ?_, ?_⟩⟩
  · simp [State.streaming, hmirror, Mirror.reset]
  · simp [hmirror, Mirror.reset]
  · simp [hdirty, DirtyMap.empty]
  · simp [State.quiet, hjournal, hheld, hmirror, Mirror.reset, Journal.reset]
  all_goals simp [hmirror, hlink, Mirror.reset, Session.reset]

theorem syncedMeans_of_ne {s : State} (h : s.mirror.state ≠ .synced) : SyncedMeans s := fun hs => absurd hs h

theorem keepsAgreement_takeSoftReset (pins : RequestPins) (selected : Bool) (s : State) :
    KeepsAgreement s (takeSoftReset pins selected s) := by
  have hmap := keepsMap_takeSoftReset pins selected s
  unfold takeSoftReset at hmap ⊢
  split
  · rename_i hpending
    have hheld : ∀ p, softResetPort s.sys = p → ∀ u : State, u.sys = p → u.held = false := by
      rintro _ rfl u hu
      simp only [State.held, hu, softResetPort_eq]
      cases s.sys.phase <;> rfl
    rw [if_pos hpending] at hmap
    exact ⟨rfl, fun _ => statesAgree_of_reset rfl rfl rfl rfl (hheld _ rfl _ rfl), hmap,
      fun _ _ _ => syncedMeans_of_ne (by simp [State.reset, Mirror.reset])⟩
  · exact .refl s

/-! ### Commands of the service port -/

/-- START takes a DISABLED origin to TRACKING, with the link not UP or out of it (R99, R159). -/
theorem keepsAgreement_startOrigin {s : State} (hrole : s.role = .origin) (hdisabled : s.mirror.state = .disabled) :
    KeepsAgreement s (startOrigin s) := by
  have hlink : (startOrigin s).link.state ≠ .up := by
    rw [startOrigin_eq hrole]
    split
    · simp [enterConnecting_eq]
    · assumption
  have hstate : (startOrigin s).mirror.state = .tracking := by
    rw [startOrigin_eq hrole]
    split <;> simp [seedOrigin]
  have hsame : (startOrigin s).role = s.role ∧ (startOrigin s).mirror.replica = s.mirror.replica ∧
      (startOrigin s).mirror.pendingMark = s.mirror.pendingMark ∧ (startOrigin s).mirror.drain = s.mirror.drain ∧
      (startOrigin s).journal = s.journal ∧ (startOrigin s).sys = s.sys ∧ (startOrigin s).porst = s.porst ∧
      (startOrigin s).dirty = s.dirty.seed s.regions.toList := by
    rw [startOrigin_eq hrole]
    split <;> simp [seedOrigin]
  obtain ⟨hrole', hreplica, hpending, hdrain, hjournal, hsys, hporst, hdirty⟩ := hsame
  refine ⟨hporst, fun ⟨ho, hr⟩ => ⟨⟨?_, ?_, ?_, fun _ => ?_⟩, ⟨?_, ?_, ?_, ?_⟩⟩, .of_seed _ hdirty,
    fun _ _ _ => syncedMeans_of_ne (by simp [hstate])⟩
  · simp [State.streaming, hstate]
  · exact fun _ => ⟨hrole'.trans hrole, hlink⟩
  · simp [hstate]
  · obtain ⟨he, hh, hp, hd⟩ := ho.quiet (by simp [State.streaming, hdisabled])
    exact ⟨by rw [hjournal, he], (held_of_phase (by rw [hsys])).trans hh, hpending.trans hp, hdrain.trans hd⟩
  · exact fun _ => hreplica.trans (hr.idle hrole)
  all_goals simp [hrole]

theorem keepsAgreement_stopMirroring (s : State) : KeepsAgreement s (stopMirroring s) := by
  have hheld : (stopMirroring s).held = false := by
    rw [State.held, stopMirroring_sys]
    cases hphase : s.sys.phase <;> simp [hphase]
  have hstate : (stopMirroring s).mirror.state = .disabled := by simp [stopMirroring_mirror]
  refine ⟨by simp, fun ⟨_, hr⟩ => ⟨⟨?_, ?_, fun _ => ?_, fun _ => ?_⟩, hr.of_place (by simp)⟩,
    .of_clearAll (stopMirroring_dirty s), fun _ _ _ => syncedMeans_of_ne (by simp [hstate])⟩
  · simp [State.streaming, hstate]
  · simp [hstate]
  · simp [stopMirroring_dirty]
  · exact ⟨by simp [stopMirroring_journal], hheld, by simp [stopMirroring_mirror], by simp [stopMirroring_mirror]⟩

theorem keepsAgreement_stopOrigin (s : State) : KeepsAgreement s (stopOrigin s) :=
  (keepsAgreement_stopMirroring s).trans (keepsAgreement_renewSession _)

theorem keepsAgreement_fenceWaiting (s : State) : KeepsAgreement s (fenceWaiting s) := by
  unfold fenceWaiting
  split
  · split
    · dsimp only
      split
      · exact .of_unheld (by simp) (by simp [State.held, fenceWrite])
      · exact .of_unheld (by simp) (by simp [State.held])
    · exact .refl s
  · exact .refl s

theorem keepsAgreement_startReplica {s : State} (hrole : s.role = .replica) (hdisabled : s.mirror.replica = .disabled) :
    KeepsAgreement s (startReplica s) := by
  have hopened : KeepsAgreement s (openReplica s) := by
    refine .of_disabled (fun hs => hs.disabled_of_replica hrole) (by simp [openReplica]) fun ⟨_, hr⟩ => ?_
    have hup : s.link.state ≠ .up := fun hup => by simpa [hdisabled] using (hr.applies hrole).mpr hup
    exact ⟨by simp [openReplica, hrole], fun _ => iff_of_false (by simp [openReplica]) hup, hr.session, hr.notDown⟩
  exact hopened.trans (keepsAgreement_fenceWaiting _)

theorem stopReplica_place {s : State} (hrole : s.role = .replica) : (stopReplica s).mirror.replica = .disabled ∧
    (stopReplica s).link.state ≠ .up ∧
    (s.link.session = 0 ∨ s.link.state = .up → (stopReplica s).link.session = 0) ∧
    (s.link.state ≠ .down → (stopReplica s).link.state ≠ .down) := by
  rw [stopReplica_eq hrole]
  split
  · simp [emptyTransmitter, endReplica]
  · simp_all [endReplica]

theorem keepsAgreement_stopReplica {s : State} (hrole : s.role = .replica) : KeepsAgreement s (stopReplica s) := by
  obtain ⟨hreplica, hup, hsession, hdown⟩ := stopReplica_place hrole
  have hsame : SameMirror s { stopReplica s with link := s.link, mirror.replica := s.mirror.replica } := by
    rw [stopReplica_eq hrole]
    split <;> simp [emptyTransmitter, endReplica]
  refine .of_disabled (fun hs => hs.disabled_of_replica hrole) hsame fun ⟨_, hr⟩ => ⟨?_, ?_, ?_, ?_⟩
  · exact fun _ => hreplica
  · exact fun _ => iff_of_false (by simp [hreplica]) hup
  · have hzero : s.link.session = 0 ∨ s.link.state = .up := or_iff_not_imp_left.mpr (hr.session hrole).mp
    exact fun _ => iff_of_false (fun hne => hne (hsession hzero)) hup
  · exact fun _ => hdown (hr.notDown hrole)

/-! ### RESEED -/

/-- The part as a RESEED seeds it, before the mirror state is looked at (R105). -/
def reseeded (s : State) : State := { s with dirty := s.dirty.seed s.regions.toList, mirror.incomplete := false }

theorem reseed_tracking {s : State} (h : s.mirror.state = .tracking) : reseed s = reseeded s := by
  simp [reseed, seedDirty, reseeded, h]

theorem reseed_resyncing {s : State} (h : s.mirror.state = .resyncing) :
    reseed s = examineCopy (checkSynced (reseeded s)) := by
  simp [reseed, seedDirty, reseeded, h]

theorem reseed_synced_dirty {s : State} (h : s.mirror.state = .synced) (hcount : 0 < (reseeded s).dirty.count) :
    reseed s = examineCopy { reseeded s with mirror.state := .resyncing } := by
  have hcount' : 0 < (s.dirty.seed s.regions.toList).count := hcount
  simp [reseed, seedDirty, reseeded, h, hcount']

theorem reseed_synced_clean {s : State} (h : s.mirror.state = .synced) (hcount : (reseeded s).dirty.count = 0) :
    reseed s = reseeded s := by
  have hcount' : (s.dirty.seed s.regions.toList).count = 0 := hcount
  simp [reseed, seedDirty, reseeded, h, hcount']

/-- A seed of a map that SYNCED leaves clean, or in another active state, is in order (R105). -/
theorem keepsAgreement_reseeded {s : State} (hactive : s.mirror.state ≠ .disabled)
    (hclean : s.mirror.state = .synced → (reseeded s).dirty.count = 0) : KeepsAgreement s (reseeded s) :=
  .of_stays (by simp [reseeded]) rfl (fun h => absurd h hactive) (fun _ hq => hq) (.of_seed _ rfl)
    (fun hsynced _ hm _ => ⟨(hm hsynced).1, .inl (hclean hsynced)⟩)

theorem keepsAgreement_reseed {s : State} (hactive : s.mirror.state ≠ .disabled) : KeepsAgreement s (reseed s) := by
  cases hstate : s.mirror.state with
  | disabled => exact absurd hstate hactive
  | tracking =>
    rw [reseed_tracking hstate]
    exact keepsAgreement_reseeded hactive (by simp [hstate])
  | resyncing =>
    rw [reseed_resyncing hstate]
    exact ((keepsAgreement_reseeded hactive (by simp [hstate])).trans (keepsAgreement_checkSynced _)).trans
      (keepsAgreement_examineCopy _)
  | synced =>
    rcases Nat.eq_zero_or_pos (reseeded s).dirty.count with hcount | hcount
    · rw [reseed_synced_clean hstate hcount]
      exact keepsAgreement_reseeded hactive fun _ => hcount
    · rw [reseed_synced_dirty hstate hcount]
      refine KeepsAgreement.trans ?_ (keepsAgreement_examineCopy _)
      exact .of_streams (by simp [reseeded]) (by simp [State.streaming, hstate]) (by simp [State.streaming])
        (.of_seed _ rfl) (fun _ _ => syncedMeans_of_ne (by simp))

/-! ### The service port -/

theorem originActive_iff (s : State) : s.originActive = true ↔ s.role = .origin ∧ s.mirror.state ≠ .disabled := by
  simp [State.originActive]

theorem keepsAgreement_servedStep {s t : State} (h : ServedStep s t) : KeepsAgreement s t := by
  cases h with
  | softReset pins selected => exact keepsAgreement_takeSoftReset pins selected s
  | startOrigin hrole hdisabled =>
    exact keepsAgreement_startOrigin hrole (by simpa [State.roleDisabled, hrole] using hdisabled)
  | startReplica hrole hdisabled =>
    exact keepsAgreement_startReplica hrole (by simpa [State.roleDisabled, hrole] using hdisabled)
  | stopOrigin => exact keepsAgreement_stopOrigin s
  | stopReplica hrole => exact keepsAgreement_stopReplica hrole
  | reseed hactive => exact keepsAgreement_reseed ((originActive_iff s).mp hactive).2
  | mark hmay => exact keepsAgreement_acceptMark false (streaming_of_mayMark hmay)
  | drain hmay =>
    exact (keepsAgreement_acceptDrain (by simpa [State.streaming] using streaming_of_mayDrain hmay)).after (by simp)
  | linkReset => exact keepsAgreement_resetLink s
  | linkEnable v => exact keepsAgreement_setEnable v s
  | _ => exact .of_same (by simp)

theorem keepsAgreement_served {s t : State} (h : Served s t) : KeepsAgreement s t :=
  h.keeps .refl .trans keepsAgreement_servedStep

/-! ### The step -/

/-- A command other than PORST's own. -/
def movesPorst : Instr → Bool
  | .porstAssert | .porstDeassert .. => true
  | _ => false

theorem keepsAgreement_exec {c : Instr} {s t : State} (hc : movesPorst c = false) (h : exec c s = .next t) :
    KeepsAgreement s t := by
  by_cases hservice : c.isServiceCommand = true
  · exact keepsAgreement_served (served_exec hservice h)
  have held : ∀ {f : State → State}, (∀ s, KeepsAgreement s (f s)) → KeepsAgreement s (unlessPorst f s) :=
    fun hf => keepsAgreement_unlessPorst hf s
  cases c <;> simp only [Instr.isServiceCommand, not_true_eq_false] at hservice <;>
    obtain rfl := (Host.Outcome.next.inj h)
  case masterTransaction r => exact held (keepsAgreement_masterTransaction r)
  case memoryReady => exact .of_same (by simp)
  case systemMemoryAnswer beats data => exact keepsAgreement_systemMemoryAnswer _ data s
  case completionTaken => exact held keepsAgreement_completionTaken
  case stallTimerExpiry => exact held keepsAgreement_stallExpiry
  case heldWriteAckReport => exact held keepsAgreement_heldWriteAckReport
  case dirtyMarkReport => exact held keepsAgreement_dirtyMarkReport
  case mirrorAckReport => exact held keepsAgreement_mirrorAckReport
  case copyStart => exact held keepsAgreement_takeCopyStart
  case copyPacingTimerExpiry => exact held keepsAgreement_pacingExpiry
  case lineReadAnswer beats data => exact keepsAgreement_lineReadAnswer _ data s
  case load => exact held keepsAgreement_offerLoad
  case frameBoundary => exact held keepsAgreement_frameBoundary
  case frameEnd => exact held keepsAgreement_frameEnd
  case breakStart => exact held keepsAgreement_breakStart
  case breakEnd => exact held keepsAgreement_breakEnd
  case receiverAlign => exact held keepsAgreement_receiverAlign
  case rxFraming c => exact held (keepsAgreement_rxFraming c)
  case rxTruncation => exact held keepsAgreement_rxTruncation
  case dataFrameReceived bytes =>
    exact held (keepsAgreement_receiveBytes fun f s _ => keepsAgreement_disposeData bytes f s)
  case helloReceived bytes => exact held (keepsAgreement_receiveBytes fun f s _ => keepsAgreement_disposeHello f s)
  case helloAckReceived bytes => exact held (keepsAgreement_receiveBytes keepsAgreement_disposeHelloAck)
  case ackReceived bytes => exact held (keepsAgreement_receiveBytes fun f s _ => keepsAgreement_disposeAck f s)
  case nakReceived bytes => exact held (keepsAgreement_receiveBytes fun f s _ => keepsAgreement_disposeNak f s)
  case helloKeepaliveTimerExpiry => exact held keepsAgreement_helloKeepaliveExpiry
  case silenceTimerExpiry => exact held keepsAgreement_silenceExpiry
  case ackTimerExpiry => exact held keepsAgreement_ackExpiry
  case breakDetected => exact held keepsAgreement_breakDetected
  case applyTakeFrame => exact held keepsAgreement_applyTakeFrame
  case applyWriteAnswer beats => exact keepsAgreement_applyWriteAnswer _ s
  case markPinEdge level => exact held (keepsAgreement_markPin level)
  case drainPinEdge level => exact held (keepsAgreement_drainPin level)
  case softResetTaken pins selected => exact held (keepsAgreement_takeSoftReset pins selected)
  case srstAssert => exact keepsAgreement_srstAssert s
  case srstDeassert => exact .of_same (by simp [srstDeassert])
  all_goals simp [movesPorst] at hc

end Sys2Proof.Machine
end

section
/-! PORST at the agreement of the states (R193), and every step's keeping of the agreement and of what SYNCED means. -/

namespace Sys2Proof.Machine

/-! ### Under PORST -/

theorem statesOk_iff (s : State) : s.statesOk = true ↔ StatesAgree s ∧ s.porstOk = true := by
  rw [State.statesOk, Bool.and_eq_true, Bool.and_eq_true, originOk_iff, replicaOk_iff, StatesAgree]

/-- What PORST holds: the mirror state, the replica state and the link (R193). -/
@[simp] abbrev SameUnderPorst (s t : State) : Prop :=
  t.mirror.state = s.mirror.state ∧ t.mirror.replica = s.mirror.replica ∧ t.link = s.link

theorem porstOk_of_same {s t : State} (hporst : t.porst = s.porst) (h : SameUnderPorst s t) (hs : s.porstOk = true) :
    t.porstOk = true := by
  obtain ⟨hstate, hreplica, hlink⟩ := h
  rwa [State.porstOk, hporst, hstate, hreplica, hlink]

theorem porstOk_of_deasserted {s : State} (h : s.porst = false) : s.porstOk = true := by simp [State.porstOk, h]

theorem sameUnderPorst_systemMemoryAnswer (answer : MemAnswer) (data : Line) (s : State) :
    SameUnderPorst s (systemMemoryAnswer answer data s) := by
  have hcapture : ∀ t u, SameUnderPorst u (capture t u) := fun t u => by
    unfold capture
    (repeat' split) <;> simp
  unfold systemMemoryAnswer
  split
  · split
    · split
      · unfold systemAnswer originWriteOk
        dsimp only
        split
        · simp
        · split
          · split
            · split
              · exact hcapture _ _
              · simp
            · simp
          · simp
      · simp
    · unfold settleAbandoned
      split <;> simp
    · simp
    · simp
  · simp

theorem sameUnderPorst_lineReadAnswer (answer : MemAnswer) (data : Line) (s : State) :
    SameUnderPorst s (lineReadAnswer answer data s) := by
  unfold lineReadAnswer
  dsimp only
  (repeat' split) <;> simp

theorem sameUnderPorst_applyWriteAnswer (answer : MemAnswer) (s : State) :
    SameUnderPorst s (applyWriteAnswer answer s) := by
  unfold applyWriteAnswer
  dsimp only
  (repeat' split) <;> simp

theorem sameUnderPorst_srstAssert (s : State) : SameUnderPorst s (srstAssert s) := by
  unfold srstAssert settleSrst
  (repeat' split) <;> simp

/-- What the part follows under PORST moves neither state nor link (R76, R193). -/
theorem sameUnderPorst_exec {c : Instr} {s t : State} (hc : movesPorst c = false) (hp : s.porst = true)
    (h : exec c s = .next t) : SameUnderPorst s t := by
  cases hfollowed : followedUnderPorst c with
  | false =>
    obtain rfl := Host.Outcome.next.inj ((exec_porstAsserted hp hfollowed).symm.trans h)
    exact ⟨rfl, rfl, rfl⟩
  | true =>
    cases c <;> simp only [followedUnderPorst, movesPorst, Bool.false_eq_true, Bool.true_eq_false] at hfollowed hc <;>
      obtain rfl := (Host.Outcome.next.inj h)
    case systemMemoryAnswer beats data => exact sameUnderPorst_systemMemoryAnswer _ data s
    case lineReadAnswer beats data => exact sameUnderPorst_lineReadAnswer _ data s
    case applyWriteAnswer beats => exact sameUnderPorst_applyWriteAnswer _ s
    case memoryReady => exact ⟨rfl, rfl, rfl⟩
    case srstAssert => exact sameUnderPorst_srstAssert s
    case srstDeassert => exact ⟨rfl, rfl, rfl⟩

/-! ### PORST's own commands -/

theorem statesOk_porstAssert (s : State) : (porstAssert s).statesOk = true :=
  (statesOk_iff _).mpr ⟨statesAgree_of_reset rfl rfl rfl rfl rfl, rfl⟩

/-- Whatever ROLE is sampled, the values held under PORST are those of a DISABLED part with the link OFF (R193). -/
theorem statesOk_porstDeassert (roleHigh : Bool) (pins : RequestPins) (selected : Bool) {s : State}
    (hs : s.statesOk = true) : (porstDeassert roleHigh pins selected s).statesOk = true := by
  unfold porstDeassert
  split
  · rename_i hp
    obtain ⟨⟨ho, -⟩, hporst⟩ := (statesOk_iff s).mp hs
    simp only [State.porstOk, hp, Bool.not_true, Bool.false_or, Bool.and_eq_true, beq_iff_eq] at hporst
    obtain ⟨⟨⟨hstate, hreplica⟩, hlink⟩, hsession⟩ := hporst
    refine (statesOk_iff _).mpr ⟨⟨ho.of_disabled hstate (by simp), ?_⟩, porstOk_of_deasserted rfl⟩
    exact ⟨fun _ => hreplica, fun _ => iff_of_false (by simp [hreplica]) (by simp [hlink]),
      fun _ => iff_of_false (by simp [hsession]) (by simp [hlink]), fun _ => by simp [hlink]⟩
  · exact hs

theorem movesPorst_cases {c : Instr} (h : movesPorst c = true) :
    c = .porstAssert ∨ ∃ roleHigh pins selected, c = .porstDeassert roleHigh pins selected := by
  cases c <;> simp_all [movesPorst]

/-! ### The step -/

theorem statesOk_of_keeps {s t : State} (hkeeps : KeepsAgreement s t) (hheld : s.porst = true → SameUnderPorst s t)
    (hs : s.statesOk = true) : t.statesOk = true := by
  obtain ⟨hagree, hporst⟩ := (statesOk_iff s).mp hs
  refine (statesOk_iff t).mpr ⟨hkeeps.states hagree, ?_⟩
  cases hp : s.porst with
  | false => exact porstOk_of_deasserted (hkeeps.porst.trans hp)
  | true => exact porstOk_of_same hkeeps.porst (hheld hp) hporst

theorem statesOk_exec {c : Instr} {s t : State} (h : exec c s = .next t) (hs : s.statesOk = true) :
    t.statesOk = true := by
  cases hc : movesPorst c with
  | true =>
    obtain rfl | ⟨roleHigh, pins, selected, rfl⟩ := movesPorst_cases hc <;> obtain rfl := Host.Outcome.next.inj h
    · exact statesOk_porstAssert s
    · exact statesOk_porstDeassert roleHigh pins selected hs
  | false => exact statesOk_of_keeps (keepsAgreement_exec hc h) (fun hp => sameUnderPorst_exec hc hp h) hs

theorem syncedOk_exec {c : Instr} {s t : State} (h : exec c s = .next t) (hwf : s.dirty.wf = true)
    (hs : s.statesOk = true) (hsynced : s.syncedOk = true) : t.syncedOk = true := by
  cases hc : movesPorst c with
  | true =>
    obtain rfl | ⟨roleHigh, pins, selected, rfl⟩ := movesPorst_cases hc <;> obtain rfl := Host.Outcome.next.inj h
    · rfl
    · unfold porstDeassert
      split <;> exact hsynced
  | false =>
    obtain ⟨hagree, -⟩ := (statesOk_iff s).mp hs
    exact (syncedOk_iff t).mpr ((keepsAgreement_exec hc h).synced hwf hagree ((syncedOk_iff s).mp hsynced))

/-- Under PORST the service port stands still (R181, R193). -/
theorem serviceByteTime_asserted {s : State} (h : s.porst = true) : serviceByteTime s = s := by
  simp [serviceByteTime, h]

/-- Settles O54: each command keeps the states in agreement, PORST's own among them. -/
theorem stepsKeepStatesInAgreement : Obligations.StepsKeepStatesInAgreement := by
  unfold Obligations.StepsKeepStatesInAgreement
  intro s t h hs
  unfold step at h
  split at h
  · obtain rfl := Host.Outcome.next.inj h
    exact statesOk_of_keeps (keepsAgreement_served (served_serviceByteTime s))
      (fun hp => by simp [serviceByteTime_asserted hp]) hs
  · exact statesOk_exec h hs

/-- Settles O58: in agreeing states each command keeps what SYNCED means. -/
theorem stepsKeepWhatSyncedMeans : Obligations.StepsKeepWhatSyncedMeans := by
  unfold Obligations.StepsKeepWhatSyncedMeans
  intro s t h hwf hs hsynced
  unfold step at h
  split at h
  · obtain rfl := Host.Outcome.next.inj h
    obtain ⟨hagree, -⟩ := (statesOk_iff s).mp hs
    exact (syncedOk_iff _).mpr
      ((keepsAgreement_served (served_serviceByteTime s)).synced hwf hagree ((syncedOk_iff s).mp hsynced))
  · exact syncedOk_exec h hwf hs hsynced

end Sys2Proof.Machine
end

section
/-! PAUSE, RESYNC and RESEED, and the commands that are REFUSED (R99, R104 to R106, R163, R164, R186). -/

namespace Sys2Proof.Machine

/-! ### Served commands, accepted and refused -/

/-- A service command that comes to `t` once its own transaction stands at the OPCODE byte. -/
theorem exec_served {f : State → State} {s t : State} (hp : s.porst = false) (hready : s.portReady)
    (h : f (selectPort (deselectPort s)) = t) :
    (Host.Outcome.next (whenServed f s) : Host.Outcome State Fault Refusal) = .next t :=
  congrArg _ (whenServed_of_eq hp hready h)

/-- A command that is REFUSED changes the response alone (R183, R186). -/
theorem exec_refused {ok : State → Bool} {f : State → State} {s : State} (hp : s.porst = false) (hready : s.portReady)
    (h : ¬ok (selectPort (deselectPort s)) = true) :
    (Host.Outcome.next (whenServed (fun s => acceptIf (ok s) f s) s) : Host.Outcome State Fault Refusal) =
      .next { s with sp := s.answered .refused } :=
  exec_served hp hready (acceptIf_refuses f _ h)

/-- The check for SYNCED looks at nothing of the service port. -/
theorem respond_checkSynced (r : Response) (s : State) : respond r (checkSynced s) = checkSynced (respond r s) := by
  have hsame : (respond r s).readyForSynced = s.readyForSynced := rfl
  unfold checkSynced
  rw [hsame]
  split <;> rfl

/-! ### PAUSE and RESYNC -/

theorem exec_pause_active {s : State} (hp : s.porst = false) (hready : s.portReady) (h : s.originActive = true) :
    exec .pause s = .next { s with sp := s.answered .accepted, copy.paused := true } :=
  exec_served hp hready (acceptIf_accepts _ _ (show (selectPort (deselectPort s)).originActive = true from h))

theorem exec_resync_active {s : State} (hp : s.porst = false) (hready : s.portReady) (h : s.originActive = true) :
    exec .resync s = .next (examineCopy { s with sp := s.answered .accepted, copy.paused := false }) := by
  refine exec_served hp hready ?_
  rw [commandResync, acceptIf_accepts _ _ (show (selectPort (deselectPort s)).originActive = true from h),
    respond_examineCopy]
  rfl

/-- PAUSE, RESYNC and RESEED are REFUSED in DISABLED and in the REPLICA role (R105, R106, R186). -/
theorem exec_inactive {c : Instr} {s : State} (hc : c = .pause ∨ c = .resync ∨ c = .reseed) (hp : s.porst = false)
    (hready : s.portReady) (h : ¬s.originActive = true) : exec c s = .next { s with sp := s.answered .refused } := by
  rcases hc with rfl | rfl | rfl <;> exact exec_refused (ok := State.originActive) hp hready h

/-- While the pause flag is set no start is decided (R82, R85). -/
theorem examineCopy_paused {s : State} (h : s.copy.paused = true) : examineCopy s = s := by
  refine if_neg fun hmay => ?_
  obtain ⟨-, -, hpaused, -⟩ := (mayDecideCopy_iff s).mp hmay
  simp [h] at hpaused

/-- Settles O39: accepted in an active origin, refused in DISABLED; the flag alone moves. -/
theorem pauseAndResyncMoveThePauseFlag : Obligations.PauseAndResyncMoveThePauseFlag := by
  unfold Obligations.PauseAndResyncMoveThePauseFlag
  intro s hp hready hrole
  have hrefused : ∀ c, c = .pause ∨ c = .resync → ¬s.originActive = true →
      exec c s = .next { s with sp := s.answered .refused } := fun c hc h =>
    exec_inactive (hc.imp_right .inl) hp hready h
  refine ⟨fun hstate => ?_, fun hstate c hc => hrefused c hc ?_, fun c hc => ?_, examineCopy_paused⟩
  · have hactive : s.originActive = true := by
      rw [originActive_iff]
      rcases hstate with h | h | h <;> simp [hrole, h]
    exact ⟨exec_pause_active hp hready hactive, exec_resync_active hp hready hactive⟩
  · simp [originActive_iff, hstate]
  · by_cases hactive : s.originActive = true
    · rcases hc with rfl | rfl
      · exact ⟨_, exec_pause_active hp hready hactive, rfl, rfl, rfl⟩
      · exact ⟨_, exec_resync_active hp hready hactive, by simp, by simp, by simp⟩
    · exact ⟨_, hrefused c hc hactive, rfl, rfl, rfl⟩

/-! ### RESEED -/

theorem exec_reseed_active {s : State} (hp : s.porst = false) (hready : s.portReady) (h : s.originActive = true) :
    exec .reseed s = .next (respond .accepted (reseed (selectPort (deselectPort s)))) :=
  exec_served hp hready (acceptIf_accepts _ _ (show (selectPort (deselectPort s)).originActive = true from h))

/-- RESEED by the state that it finds (R105). -/
theorem exec_reseed_by_state {s : State} (hp : s.porst = false) (hready : s.portReady) (hrole : s.role = .origin) :
    ∃ u : State, u = { s with
        sp := s.answered .accepted, dirty := s.dirty.seed s.regions.toList, mirror.incomplete := false } ∧
      (s.mirror.state = .tracking → exec .reseed s = .next u) ∧
      (s.mirror.state = .synced → 0 < u.dirty.count →
        exec .reseed s = .next (examineCopy { u with mirror.state := .resyncing })) ∧
      (s.mirror.state = .synced → u.dirty.count = 0 → exec .reseed s = .next u) ∧
      (s.mirror.state = .resyncing → exec .reseed s = .next (examineCopy (checkSynced u))) := by
  have hexec : s.mirror.state ≠ .disabled → exec .reseed s = _ := fun h =>
    exec_reseed_active hp hready ((originActive_iff s).mpr ⟨hrole, h⟩)
  refine ⟨_, rfl, fun h => ?_, fun h hcount => ?_, fun h hcount => ?_, fun h => ?_⟩ <;> rw [hexec (by simp [h])]
  · rw [reseed_tracking (s := selectPort (deselectPort s)) h]
    rfl
  · rw [reseed_synced_dirty (s := selectPort (deselectPort s)) h hcount, respond_examineCopy]
    rfl
  · rw [reseed_synced_clean (s := selectPort (deselectPort s)) h hcount]
    rfl
  · rw [reseed_resyncing (s := selectPort (deselectPort s)) h, respond_examineCopy, respond_checkSynced]
    rfl

/-! ### Codes of no command, and the origin's commands in a replica -/

theorem lowerDrained_replica {s : State} (h : s.role = .replica) : lowerDrained s = s := by simp [lowerDrained, h]

/-- A replica takes no DRAIN command (R186). -/
theorem commandDrain_replica {s : State} (h : s.role = .replica) : commandDrain s = respond .refused s := by
  have hmay : ¬s.mayDrain = true := by simp [mayDrain_iff, h]
  simp [commandDrain, hmay, h, lowerDrained_replica h]

theorem writeCommand_unknown {code : Byte} (s : State) (h : code.toNat = 0 ∨ 10 < code.toNat) :
    writeCommand code s = respond .refused s := by
  have hne : ∀ n : Byte, 1 ≤ n.toNat → n.toNat ≤ 10 → code ≠ n := by
    rintro n h1 h10 rfl
    omega
  unfold writeCommand
  rw [if_neg (hne 1 (by decide) (by decide)), if_neg (hne 2 (by decide) (by decide)),
    if_neg (hne 3 (by decide) (by decide)), if_neg (hne 4 (by decide) (by decide)),
    if_neg (hne 5 (by decide) (by decide)), if_neg (hne 6 (by decide) (by decide)),
    if_neg (hne 7 (by decide) (by decide)), if_neg (hne 8 (by decide) (by decide)),
    if_neg (hne 9 (by decide) (by decide)), if_neg (hne 10 (by decide) (by decide))]

/-- RESEED, PAUSE, RESYNC, MARK and DRAIN are commands of the ORIGIN column (R186). -/
theorem writeCommand_replica {code : Byte} {s : State} (hrole : s.role = .replica) (hlow : 3 ≤ code.toNat)
    (hhigh : code.toNat ≤ 7) : writeCommand code s = respond .refused s := by
  have hcode : code = 3 ∨ code = 4 ∨ code = 5 ∨ code = 6 ∨ code = 7 := by
    simp only [← BitVec.toNat_inj, BitVec.reduceToNat]
    omega
  have hactive : ¬s.originActive = true := by simp [originActive_iff, hrole]
  rcases hcode with rfl | rfl | rfl | rfl | rfl
  · exact (acceptIf_refuses _ s hactive : commandReseed s = _)
  · exact (acceptIf_refuses _ s hactive : commandPause s = _)
  · exact (acceptIf_refuses _ s hactive : commandResync s = _)
  · exact acceptIf_refuses _ s (by simp [mayMark_iff, hrole])
  · exact commandDrain_replica hrole

/-- Settles O38: RESEED by state, and each command that the state or the role does not take. -/
theorem reseedActsByStateAndStrayCommandsAreRefused : Obligations.ReseedActsByStateAndStrayCommandsAreRefused := by
  unfold Obligations.ReseedActsByStateAndStrayCommandsAreRefused
  refine ⟨fun s hp hready hrole => exec_reseed_by_state hp hready hrole,
    fun s hp hready => ⟨fun h => ?_, fun h => ?_, fun h c hc => ?_, fun code h => ?_⟩⟩
  · exact exec_refused (ok := State.roleDisabled) hp hready (not_roleDisabled (s := selectPort (deselectPort s)) h)
  · refine exec_refused (ok := fun s => !s.roleDisabled) hp hready ?_
    simpa using (roleDisabled_iff (selectPort (deselectPort s))).mpr h
  · have hactive : ¬s.originActive = true := by
      rw [originActive_iff]
      rcases h with h | h <;> simp [h]
    rcases hc with rfl | rfl | rfl | rfl
    · exact exec_inactive (.inr (.inr rfl)) hp hready hactive
    · exact exec_inactive (.inl rfl) hp hready hactive
    · exact exec_inactive (.inr (.inl rfl)) hp hready hactive
    · refine exec_refused (ok := State.mayMark) hp hready fun hmay => ?_
      obtain ⟨hrole, hstream, -⟩ := (mayMark_iff _).mp hmay
      exact hactive ((originActive_iff s).mpr ⟨hrole, not_disabled_of_streaming hstream⟩)
  · refine exec_served hp hready ?_
    rcases h with h | h | ⟨hrole, hlow, hhigh⟩
    · exact writeCommand_unknown _ (.inl h)
    · exact writeCommand_unknown _ (.inr h)
    · exact writeCommand_replica (s := selectPort (deselectPort s)) hrole hlow hhigh

end Sys2Proof.Machine
end

section
/-! Mark and drain requests (R110 to R112, R114, R186), and the SYNC output (R118). -/

namespace Sys2Proof.Machine

/-! ### Full and not full -/

theorem full_iff (j : Journal) : j.full = true ↔ 512 ≤ j.entries.length :=
  decide_eq_true_iff

theorem markConsistent_iff (s : State) :
    s.markConsistent = true ↔ s.mirror.state = .synced ∧ s.mirror.incomplete = false := by
  simp [State.markConsistent]

theorem markConsistent_eq (s : State) :
    s.markConsistent = decide (s.mirror.state = .synced ∧ s.mirror.incomplete = false) := by
  rw [Bool.eq_iff_iff, markConsistent_iff, decide_eq_true_eq]

/-! ### The append of a request -/

/-- A pending mark request is appended with its number, and a drain keeps its seq and consistent flag (R112). -/
theorem appendPendingMark_room {s : State} {r : MarkRequest} (hpending : s.mirror.pendingMark = some r)
    (hroom : s.journal.entries.length < 512) : appendPendingMark s = { s with
      journal := s.journal.push (.mark r.number s.markConsistent r.drain)
      mirror := { s.mirror with
        pendingMark := none
        drain := if r.drain then .appended ⟨s.journal.nextSeq, s.markConsistent⟩ else s.mirror.drain } } := by
  have hfull : ¬s.journal.full = true := by rw [full_iff]; omega
  unfold appendPendingMark
  rw [hpending]
  exact if_neg hfull

theorem appendPendingMark_full {s : State} (hfull : 512 ≤ s.journal.entries.length) : appendPendingMark s = s := by
  unfold appendPendingMark
  split
  · exact if_pos ((full_iff _).mpr hfull)
  · rfl

/-- A request issued, before its append (R110, R111). -/
def issuedMark (drain : Bool) (s : State) : State := { s with mirror := { s.mirror with
  lastIssued := s.mirror.lastIssued + 1, pendingMark := some ⟨s.mirror.lastIssued + 1, drain⟩ } }

theorem acceptMark_eq (drain : Bool) (s : State) : acceptMark drain s = appendPendingMark (issuedMark drain s) := rfl

/-- A MARK request with room is issued and appended at once (R110, R111, R112). -/
theorem acceptMark_plain_room {s : State} (hpending : s.mirror.pendingMark = none)
    (hroom : s.journal.entries.length < 512) : acceptMark false s = { s with
      journal := s.journal.push (.mark (s.mirror.lastIssued + 1) s.markConsistent false)
      mirror.lastIssued := s.mirror.lastIssued + 1 } := by
  rw [acceptMark_eq, appendPendingMark_room (s := issuedMark false s) rfl hroom, ← hpending]
  rfl

/-- A DRAIN request with room is issued and appended with its drain flag (R112, R114). -/
theorem acceptDrain_room {s : State} (hpending : s.mirror.pendingMark = none) (hroom : s.journal.entries.length < 512) :
    acceptDrain s = { s with
      journal := s.journal.push (.mark (s.mirror.lastIssued + 1) s.markConsistent true)
      mirror := { s.mirror with
        lastIssued := s.mirror.lastIssued + 1, drainConsistent := false
        drain := .appended ⟨s.journal.nextSeq, s.markConsistent⟩ } } := by
  rw [acceptDrain, acceptMark_eq, appendPendingMark_room
    (s := issuedMark true { s with mirror.drain := .requested, mirror.drainConsistent := false }) rfl hroom, ← hpending]
  rfl

/-- At 512 entries a request waits with its number (R112). -/
theorem acceptMark_full (drain : Bool) {s : State} (hfull : 512 ≤ s.journal.entries.length) :
    acceptMark drain s = issuedMark drain s :=
  appendPendingMark_full hfull

theorem acceptDrain_full {s : State} (hfull : 512 ≤ s.journal.entries.length) : acceptDrain s =
    issuedMark true { s with mirror.drain := .requested, mirror.drainConsistent := false } :=
  acceptMark_full true hfull

/-! ### Pins -/

theorem exec_markPinEdge {s : State} (level : Bool) (hp : s.porst = false) :
    exec (.markPinEdge level) s = .next (markPin level s) := by
  simp [exec, execMarkPinEdge, unlessPorst, hp]

theorem exec_drainPinEdge {s : State} (level : Bool) (hp : s.porst = false) :
    exec (.drainPinEdge level) s = .next (drainPin level s) := by
  simp [exec, execDrainPinEdge, unlessPorst, hp]

theorem not_isEdge {held level : Bool} (h : held = true ∨ level = false) : ¬isEdge held level = true := by
  rcases h with h | h <;> simp [isEdge, h]

/-- A move of the MARK pin that is no edge (R3, R111). -/
theorem exec_markPinEdge_level {s : State} {level : Bool} (hp : s.porst = false) (h : s.markPin = true ∨ level = false) :
    exec (.markPinEdge level) s = .next { s with markPin := level } := by
  rw [exec_markPinEdge level hp]
  exact congrArg _ (if_neg (not_isEdge h))

theorem exec_drainPinEdge_level {s : State} {level : Bool} (hp : s.porst = false)
    (h : s.drainPin = true ∨ level = false) : exec (.drainPinEdge level) s = .next { s with drainPin := level } := by
  rw [exec_drainPinEdge level hp]
  exact congrArg _ (if_neg (not_isEdge h))

theorem exec_markPinEdge_edge {s : State} (hp : s.porst = false) (hpin : s.markPin = false) :
    exec (.markPinEdge true) s = .next (markPinRequest { s with markPin := true }) := by
  simp [exec_markPinEdge true hp, markPin, isEdge, hpin]

theorem exec_drainPinEdge_edge {s : State} (hp : s.porst = false) (hpin : s.drainPin = false) :
    exec (.drainPinEdge true) s = .next (drainPinRequest { s with drainPin := true }) := by
  simp [exec_drainPinEdge true hp, drainPin, isEdge, hpin]

/-- In the REPLICA role an edge of either pin is no request (R111, R114). -/
theorem exec_markPinEdge_replica {s : State} (level : Bool) (hp : s.porst = false) (hrole : s.role = .replica) :
    exec (.markPinEdge level) s = .next { s with markPin := level } := by
  simp [exec_markPinEdge level hp, markPin, markPinRequest, hrole]

theorem exec_drainPinEdge_replica {s : State} (level : Bool) (hp : s.porst = false) (hrole : s.role = .replica) :
    exec (.drainPinEdge level) s = .next { s with drainPin := level } := by
  simp [exec_drainPinEdge level hp, drainPin, drainPinRequest, hrole]

/-! ### Mark requests -/

theorem markPinRequest_origin {s : State} (hrole : s.role = .origin) :
    markPinRequest s = if s.mayMark then acceptMark false s else raise .markRefused s := by
  rw [markPinRequest, hrole]

/-- A mark request accepted comes to `acceptMark`, by command and by pin alike (R111). -/
theorem exec_mark_accepted {s : State} (hp : s.porst = false) (h : s.mayMark = true) :
    (s.portReady → exec .mark s = .next (respond .accepted (acceptMark false (selectPort (deselectPort s))))) ∧
    (s.markPin = false → exec (.markPinEdge true) s = .next (acceptMark false { s with markPin := true })) := by
  obtain ⟨hrole, -⟩ := (mayMark_iff s).mp h
  refine ⟨fun hready => exec_served hp hready (acceptIf_accepts _ _ h), fun hpin => ?_⟩
  rw [exec_markPinEdge_edge hp hpin, markPinRequest_origin (s := { s with markPin := true }) hrole]
  exact congrArg _ (if_pos h)

/-- A mark request refused: the command's response, the edge's cause (R111). -/
theorem exec_mark_refused {s : State} (hp : s.porst = false) (hrole : s.role = .origin) (h : ¬s.mayMark = true) :
    (s.portReady → exec .mark s = .next { s with sp := s.answered .refused }) ∧
    (s.markPin = false → exec (.markPinEdge true) s = .next { s with
      markPin := true, causes := s.raised .markRefused }) := by
  refine ⟨fun hready => exec_refused (ok := State.mayMark) hp hready h, fun hpin => ?_⟩
  rw [exec_markPinEdge_edge hp hpin, markPinRequest_origin (s := { s with markPin := true }) hrole]
  exact congrArg _ (if_neg h)

/-! ### Drain requests -/

theorem lowerDrained_origin {s : State} (h : s.role = .origin) : lowerDrained s = { s with mirror.drained := false } :=
  if_pos h

theorem drainPinRequest_origin {s : State} (hrole : s.role = .origin) :
    drainPinRequest s =
      if (lowerDrained s).mayDrain then acceptDrain (lowerDrained s) else raise .drainFailed (lowerDrained s) := by
  rw [drainPinRequest, hrole]

theorem exec_drain_accepted {s : State} (hp : s.porst = false) (h : s.mayDrain = true) :
    (s.portReady → exec .drain s =
      .next (respond .accepted (acceptDrain { selectPort (deselectPort s) with mirror.drained := false }))) ∧
    (s.drainPin = false → exec (.drainPinEdge true) s =
      .next (acceptDrain { s with drainPin := true, mirror.drained := false })) := by
  obtain ⟨hrole, -⟩ := (mayDrain_iff s).mp h
  refine ⟨fun hready => exec_served hp hready ?_, fun hpin => ?_⟩
  · rw [commandDrain, lowerDrained_origin (s := selectPort (deselectPort s)) hrole]
    exact if_pos h
  · rw [exec_drainPinEdge_edge hp hpin, drainPinRequest_origin (s := { s with drainPin := true }) hrole,
      lowerDrained_origin (s := { s with drainPin := true }) hrole]
    exact congrArg _ (if_pos h)

/-- A drain request not taken: BUSY with a drain pending, else REFUSED; DRAINED is low after it all the same (R114). -/
theorem exec_drain_refused {s : State} (hp : s.porst = false) (hrole : s.role = .origin) (h : ¬s.mayDrain = true) :
    (s.portReady → exec .drain s = .next { s with
      sp := s.answered (if s.mirror.drain = .clear then .refused else .busy), mirror.drained := false }) ∧
    (s.drainPin = false → exec (.drainPinEdge true) s = .next { s with
      drainPin := true, mirror.drained := false, causes := s.raised .drainFailed }) := by
  refine ⟨fun hready => exec_served hp hready ?_, fun hpin => ?_⟩
  · have hmay : ¬(selectPort (deselectPort s)).mayDrain = true := h
    have hrole' : (selectPort (deselectPort s)).role = .origin := hrole
    unfold commandDrain
    rw [if_neg hmay, lowerDrained_origin hrole']
    by_cases hdrain : s.mirror.drain = .clear
    · have hclear : ¬((selectPort (deselectPort s)).role = .origin ∧ (selectPort (deselectPort s)).drainPending = true) := by
        simp [State.drainPending, hdrain]
      rw [if_neg hclear, if_pos hdrain]
      rfl
    · have hpending : (selectPort (deselectPort s)).role = .origin ∧ (selectPort (deselectPort s)).drainPending = true :=
        ⟨hrole', by simpa [State.drainPending] using hdrain⟩
      rw [if_pos hpending, if_neg hdrain]
      rfl
  · rw [exec_drainPinEdge_edge hp hpin, drainPinRequest_origin (s := { s with drainPin := true }) hrole,
      lowerDrained_origin (s := { s with drainPin := true }) hrole]
    exact congrArg _ (if_neg h)

/-! ### The obligation, by request -/

theorem exec_mark_stream {s : State} (hp : s.porst = false) (hrole : s.role = .origin)
    (hstate : s.mirror.state = .resyncing ∨ s.mirror.state = .synced) (hpending : s.mirror.pendingMark = none) :
    (s.journal.entries.length < 512 → ∀ c, c = decide (s.mirror.state = .synced ∧ s.mirror.incomplete = false) →
      ∃ j, j = { s.journal with
          entries := s.journal.entries ++ [⟨s.journal.nextSeq, false, .mark (s.mirror.lastIssued + 1) c false⟩]
          nextSeq := s.journal.nextSeq + 1 } ∧
        (s.portReady → exec .mark s = .next { s with
          sp := s.answered .accepted, journal := j, mirror.lastIssued := s.mirror.lastIssued + 1 }) ∧
        (s.markPin = false → exec (.markPinEdge true) s = .next { s with
          markPin := true, journal := j, mirror.lastIssued := s.mirror.lastIssued + 1 })) ∧
    (512 ≤ s.journal.entries.length →
      (s.portReady → exec .mark s = .next { s with
        sp := s.answered .accepted
        mirror := { s.mirror with
          lastIssued := s.mirror.lastIssued + 1, pendingMark := some ⟨s.mirror.lastIssued + 1, false⟩ } }) ∧
      (s.markPin = false → exec (.markPinEdge true) s = .next { s with
        markPin := true
        mirror := { s.mirror with
          lastIssued := s.mirror.lastIssued + 1, pendingMark := some ⟨s.mirror.lastIssued + 1, false⟩ } })) := by
  obtain ⟨hcommand, hpin⟩ := exec_mark_accepted hp ((mayMark_iff s).mpr ⟨hrole, (streaming_iff s).mpr hstate, hpending⟩)
  refine ⟨fun hroom c hc => ⟨_, rfl, fun hready => ?_, fun hlow => ?_⟩, fun hfull => ⟨fun hready => ?_, fun hlow => ?_⟩⟩
  · rw [hcommand hready, acceptMark_plain_room (s := selectPort (deselectPort s)) hpending hroom, hc, ← markConsistent_eq]
    rfl
  · rw [hpin hlow, acceptMark_plain_room (s := { s with markPin := true }) hpending hroom, hc, ← markConsistent_eq]
    rfl
  · rw [hcommand hready, acceptMark_full (s := selectPort (deselectPort s)) false hfull]
    rfl
  · rw [hpin hlow, acceptMark_full (s := { s with markPin := true }) false hfull]
    rfl

theorem exec_drain_room {s : State} (hp : s.porst = false) (hrole : s.role = .origin)
    (hstate : s.mirror.state = .resyncing ∨ s.mirror.state = .synced) (hup : s.link.state = .up)
    (hdrain : s.mirror.drain = .clear) (hpending : s.mirror.pendingMark = none)
    (hroom : s.journal.entries.length < 512) (c : Bool)
    (hc : c = decide (s.mirror.state = .synced ∧ s.mirror.incomplete = false)) :
    ∃ u : State, u = { s with
        journal := { s.journal with
          entries := s.journal.entries ++ [⟨s.journal.nextSeq, false, .mark (s.mirror.lastIssued + 1) c true⟩]
          nextSeq := s.journal.nextSeq + 1 }
        mirror := { s.mirror with
          lastIssued := s.mirror.lastIssued + 1, drained := false, drainConsistent := false
          drain := .appended ⟨s.journal.nextSeq, c⟩ } } ∧
      (s.portReady → exec .drain s = .next { u with sp := s.answered .accepted }) ∧
      (s.drainPin = false → exec (.drainPinEdge true) s = .next { u with drainPin := true }) := by
  obtain ⟨hcommand, hpin⟩ := exec_drain_accepted hp
    ((mayDrain_iff s).mpr ⟨hrole, (streaming_iff s).mpr hstate, hup, hdrain, hpending⟩)
  refine ⟨_, rfl, fun hready => ?_, fun hlow => ?_⟩
  · rw [hcommand hready, acceptDrain_room (s := { selectPort (deselectPort s) with mirror.drained := false }) hpending hroom,
      hc, ← markConsistent_eq]
    rfl
  · rw [hpin hlow, acceptDrain_room (s := { s with drainPin := true, mirror.drained := false }) hpending hroom, hc,
      ← markConsistent_eq]
    rfl

theorem exec_drain_full {s : State} (hp : s.porst = false) (hrole : s.role = .origin)
    (hstate : s.mirror.state = .resyncing ∨ s.mirror.state = .synced) (hup : s.link.state = .up)
    (hdrain : s.mirror.drain = .clear) (hpending : s.mirror.pendingMark = none)
    (hfull : 512 ≤ s.journal.entries.length) :
    ∃ u : State, u = { s with
        mirror := { s.mirror with
          lastIssued := s.mirror.lastIssued + 1, pendingMark := some ⟨s.mirror.lastIssued + 1, true⟩
          drained := false, drainConsistent := false, drain := .requested } } ∧
      (s.portReady → exec .drain s = .next { u with sp := s.answered .accepted }) ∧
      (s.drainPin = false → exec (.drainPinEdge true) s = .next { u with drainPin := true }) := by
  obtain ⟨hcommand, hpin⟩ := exec_drain_accepted hp
    ((mayDrain_iff s).mpr ⟨hrole, (streaming_iff s).mpr hstate, hup, hdrain, hpending⟩)
  refine ⟨_, rfl, fun hready => ?_, fun hlow => ?_⟩
  · rw [hcommand hready, acceptDrain_full (s := { selectPort (deselectPort s) with mirror.drained := false }) hfull]
    rfl
  · rw [hpin hlow, acceptDrain_full (s := { s with drainPin := true, mirror.drained := false }) hfull]
    rfl

/-- Settles O40: mark requests, drain requests, and the pins of a replica. -/
theorem markAndDrainRequestsEnterTheStream : Obligations.MarkAndDrainRequestsEnterTheStream := by
  unfold Obligations.MarkAndDrainRequestsEnterTheStream
  refine ⟨fun s hp hrole => ⟨exec_mark_stream hp hrole, fun h => exec_mark_refused hp hrole fun hmay => ?_,
      fun level => exec_markPinEdge_level hp⟩,
    fun s hp hrole => ⟨exec_drain_room hp hrole, exec_drain_full hp hrole, fun h => ?_, fun hclear h => ?_,
      fun level => exec_drainPinEdge_level hp⟩,
    fun s hp hrole => ⟨fun level => ⟨exec_markPinEdge_replica level hp hrole, exec_drainPinEdge_replica level hp hrole⟩,
      fun hready => exec_served hp hready (commandDrain_replica hrole)⟩⟩
  · obtain ⟨-, hstream, hnone⟩ := (mayMark_iff s).mp hmay
    rcases h with h | h | h <;> simp [State.streaming, h, hnone] at hstream h
  · have hmay : ¬s.mayDrain = true := fun hmay => by
      obtain ⟨-, -, -, hdrain, -⟩ := (mayDrain_iff s).mp hmay
      exact h hdrain
    simpa only [if_neg h] using exec_drain_refused hp hrole hmay
  · have hmay : ¬s.mayDrain = true := fun hmay => by
      obtain ⟨-, hstream, hup, -, hnone⟩ := (mayDrain_iff s).mp hmay
      rcases h with h | h | h | h <;> simp [State.streaming, h, hnone] at hstream h hup
    simpa only [if_pos hclear] using exec_drain_refused hp hrole hmay

/-! ### The SYNC output -/

theorem sync_origin_iff {s : State} (hrole : s.role = .origin) :
    s.sync = true ↔ s.mirror.state = .synced ∧ s.mirror.incomplete = false := by
  simp [State.sync, hrole]

/-- SYNC reads the role, the mirror state, the replica-incomplete flag and the coherent flag alone (R118, R180). -/
theorem sync_of_same {s t : State} (hrole : t.role = s.role) (hmirror : t.mirror = s.mirror) (happly : t.apply = s.apply) :
    t.sync = s.sync := by
  unfold State.sync
  rw [hrole, hmirror, happly]

theorem sync_of_reset {s : State} (hmirror : s.mirror = Mirror.reset) (happly : s.apply = ApplyEngine.reset) :
    s.sync = false := by
  unfold State.sync
  rw [hmirror, happly]
  cases s.role <;> rfl

/-- SRST leaves the mirror state alone: its mark is reported later (R62, R101, log 34). -/
theorem srstAssert_sync (s : State) : (srstAssert s).sync = s.sync := by
  unfold srstAssert settleSrst
  (repeat' split) <;> exact sync_of_same (by simp) (by simp) (by simp)

/-- Settles O51. -/
theorem syncOutputFollowsStateAndFlag : Obligations.SyncOutputFollowsStateAndFlag := by
  unfold Obligations.SyncOutputFollowsStateAndFlag
  refine ⟨fun s hrole => sync_origin_iff hrole, fun s hrole => by simp [State.sync, hrole],
    fun s hrole h => (markConsistent_iff s).mpr ((sync_origin_iff hrole).mp h),
    fun s => ⟨_, rfl, sync_of_reset rfl rfl⟩, fun pins selected s hp hpending => ?_,
    fun s => ⟨_, _, rfl, rfl, srstAssert_sync s, rfl⟩⟩
  refine ⟨_, exec_softResetTaken pins selected hp, ?_⟩
  rw [takeSoftReset, if_pos hpending]
  exact sync_of_reset rfl rfl

end Sys2Proof.Machine
end

section
/-! HELLO_ACK at the origin (R100, R141, R144, R145, R149). -/

namespace Sys2Proof.Machine

/-! ### The frame on its way to the session controller -/

theorem judgeBytes_helloAck (n : SessionNo) (q : Seq) (fresh : Bool) :
    judgeBytes .origin (Frame.mk n q (.helloAck fresh)).bytes = .valid ⟨n, q, .helloAck fresh⟩ := by
  refine judgeBytes_of_empty_payload rfl rfl (fun _ => rfl) fun bytes => ?_
  cases fresh <;> simp [decodeBody, FrameBody.code, FrameBody.flags]

theorem exec_helloAckReceived {s : State} (n : SessionNo) (q : Seq) (fresh : Bool) (hp : s.porst = false)
    (ha : s.aligned) (hrole : s.role = .origin) :
    exec (.helloAckReceived (Frame.mk n q (.helloAck fresh)).bytes) s =
      .next (takeHelloAck ⟨n, q, .helloAck fresh⟩ fresh { s with rx.phase := .between }) := by
  simp [exec, execHelloAckReceived, unlessPorst, hp, receiveBytes, receiving_of_aligned ha, hrole,
    judgeBytes_helloAck, disposeHelloAck]

/-! ### By link state -/

/-- In CONNECTING a HELLO_ACK with the session and seq of the HELLO opens the link (R144, R145). -/
theorem takeHelloAck_matches {f : Frame} (fresh : Bool) {s : State} (hstate : s.link.state = .connecting)
    (hsession : f.session = s.link.session) (hseq : f.seq = s.journal.nextSeq) :
    takeHelloAck f fresh s = originEnterUp fresh s := by
  simp [takeHelloAck, hstate, hsession, hseq]

/-- In UP one of the session counts as any valid frame (R144, R149). -/
theorem takeHelloAck_up {f : Frame} (fresh : Bool) {s : State} (hstate : s.link.state = .up)
    (hsession : f.session = s.link.session) :
    takeHelloAck f fresh s = { s with link.silenceTimer := some s.cfg.silence.toNat } := by
  simp [takeHelloAck, noteValidFrame, State.silence, hstate, hsession]

/-- A HELLO_ACK that matches nothing is stale (R144). -/
theorem takeHelloAck_stale {f : Frame} (fresh : Bool) {s : State}
    (h : (s.link.state = .connecting ∧ (f.session ≠ s.link.session ∨ f.seq ≠ s.journal.nextSeq)) ∨
      (s.link.state = .up ∧ f.session ≠ s.link.session) ∨ s.link.state = .down) :
    takeHelloAck f fresh s = bump .rxStale s := by
  rcases h with ⟨hstate, hother⟩ | ⟨hstate, hother⟩ | hstate
  · have hmatch : ¬(f.session = s.link.session ∧ f.seq = s.journal.nextSeq) := fun ⟨hsession, hseq⟩ =>
      hother.elim (· hsession) (· hseq)
    simp [takeHelloAck, hstate, hmatch]
  · simp [takeHelloAck, hstate, hother]
  · simp [takeHelloAck, hstate]

/-! ### The mirror state at UP -/

/-- The link in UP with its timers and cause, before the mirror controller takes the report (R145). -/
def enteredUp (fresh : Bool) (s : State) : State :=
  { s with
    tx.slot := dropHello s.tx.slot
    link := { s.link with
      state := .up, helloTimer := s.keepalive, silenceTimer := s.silence
      ackTimer := none, timeouts := 0, partnerFresh := fresh }
    causes := s.raised .linkUp }

theorem originEnterUp_eq (fresh : Bool) (s : State) : originEnterUp fresh s = originReachedUp (enteredUp fresh s) := rfl

theorem originReachedUp_dirty {s t : State} (hstate : s.mirror.state = .tracking) (hseeded : partnerSeeded s = t)
    (hcount : 0 < t.dirty.count) : originReachedUp s = examineCopy { t with mirror.state := .resyncing } := by
  rw [originReachedUp_tracking hstate, hseeded, if_pos hcount]

theorem originReachedUp_clean {s t : State} (hstate : s.mirror.state = .tracking) (hseeded : partnerSeeded s = t)
    (hcount : t.dirty.count = 0) :
    originReachedUp s = { t with mirror.state := .synced, causes := t.raised .synced } := by
  rw [originReachedUp_tracking hstate, hseeded, if_neg (by omega)]
  rfl

/-- A partner that is not fresh seeds nothing (R100). -/
theorem partnerSeeded_known (s : State) : partnerSeeded (enteredUp false s) = enteredUp false s := rfl

/-- For a fresh partner every block of the regions is dirty, and replica-incomplete is clear (R100, R109). -/
theorem partnerSeeded_fresh (s : State) : partnerSeeded (enteredUp true s) = { enteredUp true s with
    mirror.incomplete := false, dirty := s.dirty.seed s.regions.toList } := rfl

/-- A matching HELLO_ACK comes to what the mirror controller makes of the state with the link UP (R144, R145). -/
theorem exec_helloAck_matches {fresh : Bool} {s t : State} (hp : s.porst = false) (ha : s.aligned)
    (hrole : s.role = .origin) (hlink : s.link.state = .connecting)
    (h : originReachedUp (enteredUp fresh { s with rx.phase := .between }) = t) :
    exec (.helloAckReceived (Frame.mk s.link.session s.journal.nextSeq (.helloAck fresh)).bytes) s = .next t := by
  rw [exec_helloAckReceived _ _ fresh hp ha hrole,
    takeHelloAck_matches (s := { s with rx.phase := .between }) fresh hlink rfl rfl, originEnterUp_eq, h]

/-- Settles O26: the link comes up and the mirror state follows it, or the frame is stale. -/
theorem helloAckBringsLinkUpOrIsStale : Obligations.HelloAckBringsLinkUpOrIsStale := by
  unfold Obligations.HelloAckBringsLinkUpOrIsStale
  refine ⟨fun fresh s hp ha hrole hlink => ⟨enteredUp fresh { s with rx.phase := .between }, rfl, fun hstate => ?_,
      fun hstate => ⟨?_, ?_, ?_, ?_⟩⟩,
    fun n q fresh s hp ha hrole => ⟨fun hstale => ?_, fun hup hsession => ?_⟩⟩
  · exact exec_helloAck_matches hp ha hrole hlink (originReachedUp_disabled hstate)
  · rintro rfl hcount
    exact exec_helloAck_matches hp ha hrole hlink (originReachedUp_dirty hstate (partnerSeeded_known _) hcount)
  · rintro rfl hcount
    exact exec_helloAck_matches hp ha hrole hlink (originReachedUp_clean hstate (partnerSeeded_known _) hcount)
  · rintro rfl hcount
    exact exec_helloAck_matches hp ha hrole hlink
      (originReachedUp_dirty (s := enteredUp true { s with rx.phase := .between }) hstate (partnerSeeded_fresh _) hcount)
  · rintro rfl hcount
    exact exec_helloAck_matches hp ha hrole hlink
      (originReachedUp_clean (s := enteredUp true { s with rx.phase := .between }) hstate (partnerSeeded_fresh _) hcount)
  · rw [exec_helloAckReceived n q fresh hp ha hrole, takeHelloAck_stale (s := { s with rx.phase := .between }) fresh hstale]
    rfl
  · rw [exec_helloAckReceived n q fresh hp ha hrole,
      takeHelloAck_up (s := { s with rx.phase := .between }) fresh hup hsession]

end Sys2Proof.Machine
end

section
/-! An acknowledge-through report with a mark request pending (R107, R112, R113, R115). -/

namespace Sys2Proof.Machine

theorem exec_mirrorAckReport_taken {s : State} {ms : List RemovedMark} {rest : List (List RemovedMark)}
    (hp : s.porst = false) (hacks : s.reports.mirrorAcks = ms :: rest) :
    exec .mirrorAckReport s = .next (appendAndCheck (takeRemovedMarks ms { s with reports.mirrorAcks := rest })) := by
  simp [exec, execMirrorAckReport, unlessPorst, mirrorAckReport, hp, hacks]

/-! ### The removed MARKs -/

theorem takeRemovedMark_last (m : RemovedMark) (s : State) :
    (takeRemovedMark s m).mirror.lastAckedMark = m.number ∧ (takeRemovedMark s m).hasCause .markAcked = true := by
  have hset := raise_hasCause_self .markAcked { s with mirror.lastAckedMark := m.number }
  unfold takeRemovedMark
  dsimp only
  split
  · split
    · exact ⟨rfl, raise_hasCause .drainDone hset⟩
    · exact ⟨rfl, hset⟩
  · exact ⟨rfl, hset⟩

/-- The number of the last MARK stays, whether a drain completes or not (R113). -/
theorem takeRemovedMarks_last {ms : List RemovedMark} {last : RemovedMark} (hlast : ms.getLast? = some last)
    (s : State) : (takeRemovedMarks ms s).mirror.lastAckedMark = last.number ∧
      (takeRemovedMarks ms s).hasCause .markAcked = true := by
  obtain ⟨front, rfl⟩ := List.getLast?_eq_some_iff.mp hlast
  rw [takeRemovedMarks, List.foldl_append]
  exact takeRemovedMark_last last _

/-- The drain whose MARK is among them completes (R115). -/
theorem takeRemovedMarks_drained {ms : List RemovedMark} {d : DrainMark} {s : State} (hd : s.mirror.drain = .appended d)
    (h : ∃ q ∈ ms, q.drain = true ∧ q.seq = d.seq) :
    (takeRemovedMarks ms s).mirror.drained = true ∧ (takeRemovedMarks ms s).mirror.drainConsistent = d.consistent ∧
      (takeRemovedMarks ms s).hasCause .drainDone = true ∧ (takeRemovedMarks ms s).mirror.drain = .clear := by
  have hsome : ms ≠ [] := by
    rintro rfl
    simp at h
  rw [takeRemovedMarks_completes (List.getLast?_eq_some_getLast hsome) hd h]
  exact ⟨rfl, rfl, raise_hasCause_self .drainDone _, rfl⟩

/-- Without it the drain is as it was (R113). -/
theorem takeRemovedMarks_undrained {ms : List RemovedMark} {s : State}
    (h : ∀ d, s.mirror.drain = .appended d → ∀ q ∈ ms, q.drain = false ∨ q.seq ≠ d.seq) :
    (takeRemovedMarks ms s).mirror.drained = s.mirror.drained ∧
      (takeRemovedMarks ms s).mirror.drainConsistent = s.mirror.drainConsistent ∧
      (takeRemovedMarks ms s).mirror.drain = s.mirror.drain := by
  by_cases hnil : ms = []
  · subst hnil
    exact ⟨rfl, rfl, rfl⟩
  · rw [takeRemovedMarks_plain (List.getLast?_eq_some_getLast hnil) h]
    exact ⟨rfl, rfl, rfl⟩

theorem takeRemovedMarks_incomplete (ms : List RemovedMark) (s : State) :
    (takeRemovedMarks ms s).mirror.incomplete = s.mirror.incomplete := by
  have hone : ∀ (m : RemovedMark) (s : State), (takeRemovedMark s m).mirror.incomplete = s.mirror.incomplete := by
    intro m s
    unfold takeRemovedMark
    dsimp only
    (repeat' split) <;> rfl
  induction ms generalizing s with
  | nil => rfl
  | cons m ms ih => rw [takeRemovedMarks_cons, ih, hone]

/-- The removed MARKs bear on nothing that the check for SYNCED looks at (R102). -/
theorem takeRemovedMarks_readyForSynced (ms : List RemovedMark) (s : State) :
    (takeRemovedMarks ms s).readyForSynced = s.readyForSynced := by
  simp [State.readyForSynced]

/-! ### The append -/

/-- The state with a mark request's entry appended, its consistent flag being `c` (R112). -/
def markAppended (r : MarkRequest) (c : Bool) (s : State) : State :=
  { s with
    journal := s.journal.push (.mark r.number c r.drain)
    mirror := { s.mirror with
      pendingMark := none
      drain := if r.drain then .appended ⟨s.journal.nextSeq, c⟩ else s.mirror.drain } }

theorem appendPendingMark_eq_markAppended {r : MarkRequest} {s : State} (hpending : s.mirror.pendingMark = some r)
    (hroom : s.journal.entries.length < 512) : appendPendingMark s = markAppended r s.markConsistent s :=
  appendPendingMark_room hpending hroom

/-- A MARK is no BLOCK entry: its append bears on the check for SYNCED in nothing (R102). -/
theorem markAppended_readyForSynced (r : MarkRequest) (c : Bool) (s : State) :
    (markAppended r c s).readyForSynced = s.readyForSynced := by
  simp [State.readyForSynced, markAppended, Journal.push, Entry.isBlock]

/-- With its flag given, the append comes to the same before the check as after it (R102, R112). -/
theorem markAppended_checkSynced (r : MarkRequest) (c : Bool) (s : State) :
    markAppended r c (checkSynced s) = checkSynced (markAppended r c s) := by
  unfold checkSynced
  rw [markAppended_readyForSynced]
  split <;> rfl

/-! ### The check -/

theorem checkSynced_ready {s : State} (h : s.readyForSynced = true) :
    (checkSynced s).mirror.state = .synced ∧ (checkSynced s).hasCause .synced = true := by
  rw [checkSynced, if_pos h]
  exact ⟨rfl, raise_hasCause_self .synced _⟩

theorem checkSynced_not_ready {s : State} (h : s.readyForSynced = false) : checkSynced s = s :=
  if_neg (by simp [h])

theorem markConsistent_of_ready {s : State} (h : s.readyForSynced = true) : s.markConsistent = false := by
  obtain ⟨hstate, -⟩ := (readyForSynced_iff s).mp h
  simp [State.markConsistent, hstate]

theorem checkSynced_markConsistent {s : State} (h : s.readyForSynced = true) :
    (checkSynced s).markConsistent = !s.mirror.incomplete := by
  simp [State.markConsistent, checkSynced, h]

/-! ### Append and check together -/

/-- At 512 entries the request waits on, and only the check acts (R112). -/
theorem appendAndCheck_full {s : State} (hfull : 512 ≤ s.journal.entries.length) :
    ∃ k, appendAndCheck s = checkSynced { s with choices := k } := by
  have hwaits : ∀ u : State, u.journal = s.journal → appendPendingMark u = u := fun u hu =>
    appendPendingMark_full (by rw [hu]; exact hfull)
  unfold appendAndCheck
  dsimp only
  split
  · refine ⟨s.choices + 1, ?_⟩
    split
    · exact hwaits _ (by simp)
    · rw [hwaits { s with choices := s.choices + 1 } rfl]
  · exact ⟨s.choices, by rw [hwaits s rfl]⟩

/-- With room the request is appended; where the check succeeds as well, the order of the two is open and shows in the
consistent flag alone (R107, R112). -/
theorem appendAndCheck_room {r : MarkRequest} {s : State} (hpending : s.mirror.pendingMark = some r)
    (hroom : s.journal.entries.length < 512) :
    ∃ k c, appendAndCheck s = checkSynced (markAppended r c { s with choices := k }) ∧
      (s.readyForSynced = false → k = s.choices ∧ c = s.markConsistent) ∧
      (s.readyForSynced = true → c = false ∨ c = !s.mirror.incomplete) := by
  have happend : ∀ u : State, u.mirror.pendingMark = s.mirror.pendingMark → u.journal = s.journal →
      appendPendingMark u = markAppended r u.markConsistent u := fun u hsame hjournal =>
    appendPendingMark_eq_markAppended (hsame.trans hpending) (by rw [hjournal]; exact hroom)
  cases hready : s.readyForSynced with
  | false =>
    refine ⟨s.choices, s.markConsistent, ?_, fun _ => ⟨rfl, rfl⟩, fun h => by cases h⟩
    simp [appendAndCheck, hready, happend s rfl rfl]
  | true =>
    have hready' : { s with choices := s.choices + 1 }.readyForSynced = true := hready
    unfold appendAndCheck
    dsimp only
    rw [if_pos ⟨by simp [hpending], hready⟩]
    by_cases horder : Sys2Proof.Config.checkBeforeAppend s.choices = true
    · refine ⟨s.choices + 1, !s.mirror.incomplete, ?_, fun h => by simp at h, fun _ => .inr rfl⟩
      rw [if_pos horder, happend _ (by simp) (by simp), checkSynced_markConsistent hready', markAppended_checkSynced]
    · refine ⟨s.choices + 1, false, ?_, fun h => by simp at h, fun _ => .inl rfl⟩
      rw [if_neg horder, happend { s with choices := s.choices + 1 } rfl rfl, markConsistent_of_ready hready']

/-! ### What the removed MARKs have set stays -/

/-- The last acknowledged mark and the drain's outcome as they were, and no cause cleared (R113, R115). -/
structure KeepsMarkOutcome (s t : State) : Prop where
  lastAcked : t.mirror.lastAckedMark = s.mirror.lastAckedMark
  drained : t.mirror.drained = s.mirror.drained
  drainConsistent : t.mirror.drainConsistent = s.mirror.drainConsistent
  causes : ∀ c, s.hasCause c = true → t.hasCause c = true

theorem keepsMarkOutcome_checkSynced (s : State) : KeepsMarkOutcome s (checkSynced s) := by
  unfold checkSynced
  split
  · exact ⟨rfl, rfl, rfl, fun _ h => raise_hasCause .synced h⟩
  · exact ⟨rfl, rfl, rfl, fun _ h => h⟩

theorem KeepsMarkOutcome.of_checkSynced {s u : State} (hmarks : u.mirror.lastAckedMark = s.mirror.lastAckedMark)
    (hdrained : u.mirror.drained = s.mirror.drained) (hconsistent : u.mirror.drainConsistent = s.mirror.drainConsistent)
    (hcauses : u.causes = s.causes) : KeepsMarkOutcome s (checkSynced u) := by
  obtain ⟨hlast, hdr, hco, hca⟩ := keepsMarkOutcome_checkSynced u
  refine ⟨hlast.trans hmarks, hdr.trans hdrained, hco.trans hconsistent, fun c h => hca c ?_⟩
  rw [State.hasCause, hcauses]
  exact h

/-- Append and check leave the outcome alone, and the drain unless the drain's own MARK is appended (R112). -/
theorem appendAndCheck_keepsMarkOutcome {r : MarkRequest} {s : State} (hpending : s.mirror.pendingMark = some r) :
    KeepsMarkOutcome s (appendAndCheck s) ∧
      (r.drain = false ∨ 512 ≤ s.journal.entries.length → (appendAndCheck s).mirror.drain = s.mirror.drain) := by
  by_cases hroom : s.journal.entries.length < 512
  · obtain ⟨k, c, heq, -⟩ := appendAndCheck_room hpending hroom
    rw [heq]
    refine ⟨.of_checkSynced rfl rfl rfl rfl, fun h => ?_⟩
    have hplain : r.drain = false := h.resolve_right (by omega)
    simp [markAppended, hplain]
  · obtain ⟨k, heq⟩ := appendAndCheck_full (Nat.le_of_not_lt hroom)
    rw [heq]
    exact ⟨.of_checkSynced rfl rfl rfl rfl, fun _ => by simp⟩

/-! ### The obligation -/

/-- The report's MARKs are taken as without a request pending (R113, R115). -/
theorem mirrorAckReport_takesMarks {r : MarkRequest} {ms : List RemovedMark} {s : State}
    (hpending : s.mirror.pendingMark = some r) {t : State} (ht : t = appendAndCheck (takeRemovedMarks ms s)) :
    (ms = [] → t.mirror.lastAckedMark = s.mirror.lastAckedMark) ∧
    (∀ last, ms.getLast? = some last → t.mirror.lastAckedMark = last.number ∧ t.hasCause .markAcked = true) ∧
    (∀ d, s.mirror.drain = .appended d → (∃ q ∈ ms, q.drain = true ∧ q.seq = d.seq) →
      t.mirror.drained = true ∧ t.mirror.drainConsistent = d.consistent ∧ t.hasCause .drainDone = true ∧
      (r.drain = false ∨ 512 ≤ s.journal.entries.length → t.mirror.drain = .clear)) ∧
    ((∀ d, s.mirror.drain = .appended d → ∀ q ∈ ms, q.drain = false ∨ q.seq ≠ d.seq) →
      t.mirror.drained = s.mirror.drained ∧ t.mirror.drainConsistent = s.mirror.drainConsistent ∧
      (r.drain = false ∨ 512 ≤ s.journal.entries.length → t.mirror.drain = s.mirror.drain)) := by
  subst ht
  obtain ⟨⟨hlastKept, hdrainedKept, hconsistentKept, hcauses⟩, hdrainKept⟩ :=
    appendAndCheck_keepsMarkOutcome (r := r) (s := takeRemovedMarks ms s) (by simpa using hpending)
  have hjournal : (takeRemovedMarks ms s).journal = s.journal := by simp
  rw [hjournal] at hdrainKept
  refine ⟨fun hnil => ?_, fun last hlast => ?_, fun d hd h => ?_, fun h => ?_⟩
  · rw [hlastKept, hnil]
    rfl
  · obtain ⟨hnumber, hcause⟩ := takeRemovedMarks_last hlast s
    exact ⟨hlastKept.trans hnumber, hcauses _ hcause⟩
  · obtain ⟨hdrained, hconsistent, hcause, hclear⟩ := takeRemovedMarks_drained hd h
    exact ⟨hdrainedKept.trans hdrained, hconsistentKept.trans hconsistent, hcauses _ hcause,
      fun hkept => (hdrainKept hkept).trans hclear⟩
  · obtain ⟨hdrained, hconsistent, hdrain⟩ := takeRemovedMarks_undrained h
    exact ⟨hdrainedKept.trans hdrained, hconsistentKept.trans hconsistent,
      fun hkept => (hdrainKept hkept).trans hdrain⟩

/-- With room, the request's MARK is the last entry of the journal (R107, R112). -/
theorem mirrorAckReport_appends {r : MarkRequest} (ms : List RemovedMark) {s : State}
    (hpending : s.mirror.pendingMark = some r) (hroom : s.journal.entries.length < 512) {t : State}
    (ht : t = appendAndCheck (takeRemovedMarks ms s)) :
    ∃ c, t.mirror.pendingMark = none ∧
      t.journal = { s.journal with
        entries := s.journal.entries ++ [⟨s.journal.nextSeq, false, .mark r.number c r.drain⟩]
        nextSeq := s.journal.nextSeq + 1 } ∧
      (r.drain = true → t.mirror.drain = .appended ⟨s.journal.nextSeq, c⟩) ∧
      (s.readyForSynced = false → c = decide (s.mirror.state = .synced ∧ s.mirror.incomplete = false) ∧
        t.mirror.state = s.mirror.state ∧ t.choices = s.choices) ∧
      (s.readyForSynced = true → (c = false ∨ c = !s.mirror.incomplete) ∧ t.mirror.state = .synced ∧
        t.hasCause .synced = true) := by
  have hsynced := takeRemovedMarks_readyForSynced ms s
  have hflag : (takeRemovedMarks ms s).markConsistent = s.markConsistent := by
    simp [State.markConsistent, takeRemovedMarks_incomplete]
  obtain ⟨k, c, heq, hnot, hready⟩ := appendAndCheck_room (r := r) (s := takeRemovedMarks ms s)
    (by simpa using hpending) (by simpa using hroom)
  rw [hsynced, takeRemovedMarks_incomplete] at hready
  rw [hsynced, hflag, markConsistent_eq] at hnot
  have hcheck : (markAppended r c { takeRemovedMarks ms s with choices := k }).readyForSynced = s.readyForSynced := by
    rw [markAppended_readyForSynced]
    exact hsynced
  rw [ht, heq]
  refine ⟨c, ?_, ?_, fun hdrain => ?_, fun h => ?_, fun h => ⟨hready h, checkSynced_ready (hcheck.trans h)⟩⟩
  · simp [markAppended]
  · simp [markAppended, Journal.push]
  · simp [markAppended, hdrain]
  · obtain ⟨hk, hc⟩ := hnot h
    rw [checkSynced_not_ready (hcheck.trans h)]
    exact ⟨hc, by simp [markAppended], by simp [markAppended, hk]⟩

/-- Settles O50: the request waits at 512 entries, else its MARK is appended; the report's MARKs are taken in both. -/
theorem pendingMarkIsAppendedAtReport : Obligations.PendingMarkIsAppendedAtReport := by
  unfold Obligations.PendingMarkIsAppendedAtReport
  intro r ms rest s hp hacks hpending
  have hexec := exec_mirrorAckReport_taken hp hacks
  refine ⟨fun hfull => ⟨_, hexec, ?_⟩, ⟨_, hexec, by simp, ?_⟩, fun hroom => ?_⟩
  · obtain ⟨k, heq⟩ := appendAndCheck_full (s := takeRemovedMarks ms { s with reports.mirrorAcks := rest })
      (by simpa using hfull)
    rw [heq]
    simpa using hpending
  · exact mirrorAckReport_takesMarks (s := { s with reports.mirrorAcks := rest }) hpending rfl
  · obtain ⟨c, h⟩ := mirrorAckReport_appends (s := { s with reports.mirrorAcks := rest }) ms hpending hroom rfl
    exact ⟨_, c, hexec, h⟩

end Sys2Proof.Machine
end

section
/-! The moves of the link: what the line, the receiver and the session controller are left with when the link enters
OFF and when it leaves UP (R127 to R129, R135, R156, R158, R160). -/

namespace Sys2Proof.Machine

/-! ### Into OFF -/

/-- In OFF the transmitter is empty, its line comes to rest, and no break is pending (R128). -/
theorem enterOff_tx (s : State) : (enterOff s).tx = ⟨none, none, lineIntoOff s.tx.line, false⟩ := by
  simp [enterOff, transmitterIntoOff]

/-- In OFF the receiver hunts, and the break detector counts anew (R129, R135). -/
theorem enterOff_rx (s : State) : (enterOff s).rx.phase = .hunting ∧ (enterOff s).rx.runReported = false := by
  simp [enterOff]

/-- In OFF every timer is stopped, and a replica has no session (R137, R139). -/
theorem enterOff_link_eq (s : State) : (enterOff s).link = { s.link with
    state := .off, helloTimer := none, silenceTimer := none, ackTimer := none, timeouts := 0
    session := if s.role = .replica then 0 else s.link.session } := by
  cases hrole : s.role <;> simp [enterOff, clearReplicaSession, hrole, stopSession]

/-- A line into OFF carries no frame and no break (R128). -/
theorem lineIntoOff_atRest (l : TxLine) : (lineIntoOff l).atRest = true := by cases l <;> rfl

/-- A line at rest is at mark from the tenth bit time on (R119, R128). -/
theorem atRest_level {l : TxLine} (h : l.atRest = true) {k : Nat} (hk : 9 ≤ k) : l.level k = some true := by
  cases l with
  | idle => rfl
  | gap => rfl
  | finishing => exact if_neg (by omega)
  | sending f => simp [TxLine.atRest] at h
  | space => simp [TxLine.atRest] at h

/-! ### Out of UP -/

/-- The state that a link that leaves UP takes in each role (R156, R158, R160). -/
def LeaveTo.state (role : Role) : LeaveTo → LinkState
  | .down => if role = .origin then .down else .connecting
  | .connecting => .connecting
  | .off => .off

theorem LeaveTo.state_ne_up (role : Role) (dest : LeaveTo) : dest.state role ≠ .up := by
  cases dest <;> cases role <;> simp [LeaveTo.state]

theorem LeaveTo.state_eq_off_iff (role : Role) (dest : LeaveTo) : dest.state role = .off ↔ dest = .off := by
  cases dest <;> cases role <;> simp [LeaveTo.state]

theorem enterAfterUp_state (dest : LeaveTo) (s : State) : (enterAfterUp dest s).link.state = dest.state s.role := by
  cases dest <;> cases hrole : s.role <;>
    simp [enterAfterUp, enterDown, enterConnecting_eq, LeaveTo.state, hrole, enterOff_link_eq]

theorem leaveUp_state (dest : LeaveTo) (withBreak counted : Bool) (s : State) :
    (leaveUp dest withBreak counted s).link.state = dest.state s.role := by
  simp only [leaveUp_eq, reportLeftUp_keeps, linkOutOfUp, enterAfterUp_state]
  split <;> simp

theorem enterAfterUp_silence (dest : LeaveTo) (s : State) (h : s.link.silenceTimer = none) :
    (enterAfterUp dest s).link.silenceTimer = none := by
  cases dest <;> cases hrole : s.role <;>
    simp [enterAfterUp, enterDown, enterConnecting_eq, hrole, enterOff_link_eq, h]

/-- Outside UP the silence timer is stopped (R149, R158, R160). -/
theorem leaveUp_silence (dest : LeaveTo) (withBreak counted : Bool) (s : State) :
    (leaveUp dest withBreak counted s).link.silenceTimer = none := by
  simp only [leaveUp_eq, reportLeftUp_keeps, linkOutOfUp]
  refine enterAfterUp_silence dest _ ?_
  cases hrole : s.role <;> cases counted <;> simp [clearReplicaSession, hrole, stopSession]

/-- The transmitter's part: slot and buffer empty, and the line cut if a break is requested (R127, R128). -/
theorem transmitterLeavesUp_emptied (withBreak : Bool) (s : State) :
    (transmitterLeavesUp withBreak s).tx.slot = none ∧ (transmitterLeavesUp withBreak s).tx.buffer = none := by
  unfold transmitterLeavesUp requestBreak emptyTransmitter
  dsimp only
  (repeat' split) <;> exact ⟨rfl, rfl⟩

theorem enterAfterUp_buffer (dest : LeaveTo) (s : State) (h : s.tx.buffer = none) :
    (enterAfterUp dest s).tx.buffer = none := by
  cases dest <;> cases hrole : s.role <;> simp [enterAfterUp, hrole, enterOff_tx, h]

/-- Outside UP the data holding buffer is empty (R128). -/
theorem leaveUp_buffer (dest : LeaveTo) (withBreak counted : Bool) (s : State) :
    (leaveUp dest withBreak counted s).tx.buffer = none := by
  have hbuffer : (linkOutOfUp dest withBreak counted s).tx.buffer = none :=
    enterAfterUp_buffer dest _ (transmitterLeavesUp_emptied _ _).2
  rw [leaveUp_eq, reportLeftUp_tx]
  simp [hbuffer]

theorem reportLeftUp_runReported (s : State) : (reportLeftUp s).rx.runReported = s.rx.runReported := by
  unfold reportLeftUp
  split <;> simp

/-- The receiver stands where it stood, but for OFF (R129, R135). -/
theorem leaveUp_rx {dest : LeaveTo} (withBreak counted : Bool) (s : State) (hdest : dest ≠ .off) :
    (leaveUp dest withBreak counted s).rx.phase = s.rx.phase ∧
      (leaveUp dest withBreak counted s).rx.runReported = s.rx.runReported := by
  have hrx : (linkOutOfUp dest withBreak counted s).rx = s.rx := by
    cases dest with
    | off => exact absurd rfl hdest
    | down => cases counted <;> simp [linkOutOfUp, enterAfterUp]
    | connecting => cases hrole : s.role <;> cases counted <;> simp [linkOutOfUp, enterAfterUp, hrole]
  rw [leaveUp_eq, reportLeftUp_phase, reportLeftUp_runReported, hrx]
  exact ⟨rfl, rfl⟩

/-- A link that leaves UP for OFF hunts, with its line at rest (R128, R129, R135). -/
theorem leaveUp_off (withBreak counted : Bool) (s : State) :
    (leaveUp .off withBreak counted s).rx.phase = .hunting ∧
      (leaveUp .off withBreak counted s).rx.runReported = false ∧
      (leaveUp .off withBreak counted s).tx.slot = none ∧
      (leaveUp .off withBreak counted s).tx.line.atRest = true ∧
      (leaveUp .off withBreak counted s).tx.breakPending = false := by
  rw [leaveUp_eq, reportLeftUp_phase, reportLeftUp_runReported, reportLeftUp_tx]
  simp [linkOutOfUp, enterAfterUp, enterOff_rx, enterOff_tx, lineIntoOff_atRest]

end Sys2Proof.Machine
end

section
/-! What goes with the link state (R119, R124, R128, R129, R135, R137, R149) and what is in flight (R150), rule by rule,
and the relation between a state and the state after that keeps both. -/

namespace Sys2Proof.Machine

/-! ### The two agreements -/

/-- What goes with the link state, rule by rule. -/
structure LinkAgrees (s : State) : Prop where
  enable : s.control.linkEnable = true ↔ s.link.state ≠ .off
  off : s.link.state = .off → s.rx.phase = .hunting ∧ s.rx.runReported = false ∧ s.tx.slot = none ∧
    s.tx.line.atRest = true ∧ s.tx.breakPending = false
  reported : s.rx.runReported = true → s.rx.phase = .hunting
  buffer : s.link.state ≠ .up → s.tx.buffer = none
  silence : s.link.silenceTimer.isSome = true ↔ s.link.state = .up

theorem linkOk_iff (s : State) : s.linkOk = true ↔ LinkAgrees s := by
  have hbeq : ∀ a b : Bool, (a == b) = true ↔ (a = true ↔ b = true) := by decide
  have hnot : ∀ p q : Prop, p ∨ q ↔ (¬p → q) := fun _ _ => or_iff_not_imp_left
  unfold State.linkOk
  simp only [Bool.and_eq_true, hbeq, Bool.or_eq_true, hnot, bne_iff_ne, beq_iff_eq, Bool.not_eq_true', not_not,
    Option.isNone_iff_eq_none, Bool.not_eq_false]
  constructor
  · rintro ⟨⟨⟨⟨henable, hoff⟩, hreported⟩, hbuffer⟩, hsilence⟩
    refine ⟨henable, fun h => ?_, hreported, hbuffer, hsilence⟩
    obtain ⟨⟨⟨⟨hphase, hslot⟩, hrun⟩, hline⟩, hbreak⟩ := hoff h
    exact ⟨hphase, hrun, hslot, hline, hbreak⟩
  · rintro ⟨henable, hoff, hreported, hbuffer, hsilence⟩
    refine ⟨⟨⟨⟨henable, fun h => ?_⟩, hreported⟩, hbuffer⟩, hsilence⟩
    obtain ⟨hphase, hrun, hslot, hline, hbreak⟩ := hoff h
    exact ⟨⟨⟨⟨hphase, hslot⟩, hrun⟩, hline⟩, hbreak⟩

/-- Entries are in flight in an origin's stream in UP alone, and no more than the window (R150). -/
def InWindow (s : State) : Prop :=
  s.journal.sendPoint ≠ 0 → s.role = .origin ∧ s.link.state = .up ∧ s.streaming = true ∧
    s.journal.sendPoint ≤ s.cfg.window.toNat

theorem windowOk_iff (s : State) : s.windowOk = true ↔ s.journal.sendPoint ≤ s.cfg.window.toNat :=
  decide_eq_true_iff

theorem InWindow.windowOk {s : State} (hs : InWindow s) : s.windowOk = true := by
  rw [windowOk_iff]
  by_cases hzero : s.journal.sendPoint = 0
  · omega
  · obtain ⟨-, -, -, hle⟩ := hs hzero
    exact hle

/-- In agreeing states with a well-formed journal nothing is in flight outside the stream (R9, R97). -/
theorem inWindow_iff {s : State} (hwf : s.journal.wf = true) (hs : StatesAgree s) : InWindow s ↔ s.windowOk = true := by
  refine ⟨InWindow.windowOk, fun hle hne => ?_⟩
  have hstream : s.streaming = true := by
    by_contra hnot
    obtain ⟨hentries, -⟩ := hs.1.quiet (by simpa using hnot)
    have hlen := Journal.sendPoint_le s.journal hwf
    rw [hentries, List.length_nil] at hlen
    omega
  obtain ⟨hrole, hup⟩ := hs.1.streams hstream
  exact ⟨hrole, hup, hstream, (windowOk_iff s).mp hle⟩

/-! ### What an operation keeps -/

/-- What an operation that leads from `s` to `t` keeps: what goes with the link state, and what is in flight. -/
structure KeepsLink (s t : State) : Prop where
  link : LinkAgrees s → LinkAgrees t
  window : InWindow s → InWindow t

/-- An operation that moves nothing that goes with the link state. -/
@[simp] abbrev SameLink (s t : State) : Prop :=
  t.control.linkEnable = s.control.linkEnable ∧ t.link.state = s.link.state ∧
    t.link.silenceTimer = s.link.silenceTimer ∧ t.rx.phase = s.rx.phase ∧ t.rx.runReported = s.rx.runReported ∧
    t.tx.slot = s.tx.slot ∧ t.tx.buffer = s.tx.buffer ∧ t.tx.line = s.tx.line ∧
    t.tx.breakPending = s.tx.breakPending

/-- An operation that moves nothing of the stream that what is in flight rests on. -/
@[simp] abbrev SameStream (s t : State) : Prop :=
  t.role = s.role ∧ t.link.state = s.link.state ∧ t.mirror.state = s.mirror.state ∧
    t.journal.sendPoint = s.journal.sendPoint ∧ t.cfg.window = s.cfg.window

theorem LinkAgrees.of_same {s t : State} (h : SameLink s t) (hs : LinkAgrees s) : LinkAgrees t := by
  obtain ⟨henable, hstate, hsilence, hphase, hrun, hslot, hbuffer, hline, hbreak⟩ := h
  exact ⟨by rw [henable, hstate]; exact hs.enable, by rw [hstate, hphase, hrun, hslot, hline, hbreak]; exact hs.off,
    by rw [hrun, hphase]; exact hs.reported, by rw [hstate, hbuffer]; exact hs.buffer,
    by rw [hsilence, hstate]; exact hs.silence⟩

/-- An operation of the transmitter: it may empty the holding buffer, and in OFF it leaves the line at rest. -/
theorem LinkAgrees.of_tx {s t : State} (h : SameLink s { t with tx := s.tx })
    (hbuffer : s.tx.buffer = none → t.tx.buffer = none)
    (hoff : s.link.state = .off → s.tx.slot = none → s.tx.line.atRest = true → s.tx.breakPending = false →
      t.tx.slot = none ∧ t.tx.line.atRest = true ∧ t.tx.breakPending = false) (hs : LinkAgrees s) : LinkAgrees t := by
  obtain ⟨henable, hofft, hreported, hbuf, hsilence⟩ := hs.of_same h
  have hlink : t.link.state = s.link.state := h.2.1
  refine ⟨henable, fun ht => ?_, hreported, fun ht => hbuffer (hbuf ht), hsilence⟩
  obtain ⟨hphase, hrun, hslot, hline, hbreak⟩ := hofft ht
  exact ⟨hphase, hrun, hoff (hlink.symm.trans ht) hslot hline hbreak⟩

/-- An operation of the receiver: in OFF it hunts and has reported nothing, and elsewhere it hunts in a reported run. -/
theorem LinkAgrees.of_rx {s t : State} (h : SameLink s { t with rx := s.rx })
    (hoff : s.link.state = .off → s.rx.phase = .hunting → s.rx.runReported = false →
      t.rx.phase = .hunting ∧ t.rx.runReported = false)
    (hreported : (s.rx.runReported = true → s.rx.phase = .hunting) → t.rx.runReported = true → t.rx.phase = .hunting)
    (hs : LinkAgrees s) : LinkAgrees t := by
  obtain ⟨henable, hofft, -, hbuffer, hsilence⟩ := hs.of_same h
  have hlink : t.link.state = s.link.state := h.2.1
  refine ⟨henable, fun ht => ?_, hreported hs.reported, hbuffer, hsilence⟩
  obtain ⟨hphase, hrun, hslot, hline, hbreak⟩ := hofft ht
  obtain ⟨hphase', hrun'⟩ := hoff (hlink.symm.trans ht) hphase hrun
  exact ⟨hphase', hrun', hslot, hline, hbreak⟩

/-- A link that is neither in OFF nor in UP: the buffer is empty and the silence timer stopped. -/
theorem LinkAgrees.of_between {t : State} (henable : t.control.linkEnable = true) (hoff : t.link.state ≠ .off)
    (hup : t.link.state ≠ .up) (hreported : t.rx.runReported = true → t.rx.phase = .hunting)
    (hbuffer : t.tx.buffer = none) (hsilence : t.link.silenceTimer = none) : LinkAgrees t :=
  ⟨iff_of_true henable hoff, fun h => absurd h hoff, hreported, fun _ => hbuffer, iff_of_false (by simp [hsilence]) hup⟩

/-- A link in UP: the silence timer runs. -/
theorem LinkAgrees.of_up {t : State} (henable : t.control.linkEnable = true) (hup : t.link.state = .up)
    (hreported : t.rx.runReported = true → t.rx.phase = .hunting)
    (hsilence : t.link.silenceTimer.isSome = true) : LinkAgrees t :=
  ⟨iff_of_true henable (by simp [hup]), fun h => by simp [hup] at h, hreported, fun h => absurd hup h,
    iff_of_true hsilence hup⟩

/-- A link in OFF, with everything at rest. -/
theorem LinkAgrees.of_off {t : State} (henable : t.control.linkEnable = false) (hstate : t.link.state = .off)
    (hoff : t.rx.phase = .hunting ∧ t.rx.runReported = false ∧ t.tx.slot = none ∧ t.tx.line.atRest = true ∧
      t.tx.breakPending = false) (hbuffer : t.tx.buffer = none) (hsilence : t.link.silenceTimer = none) : LinkAgrees t :=
  ⟨by simp [henable, hstate], fun _ => hoff, fun _ => hoff.1, fun _ => hbuffer, by simp [hsilence, hstate]⟩

/-- An operation that loads nothing, in a stream that goes on. -/
theorem InWindow.of_stream {s t : State} (hrole : t.role = s.role) (hstate : t.link.state = s.link.state)
    (hstream : s.streaming = true → t.streaming = true) (hpoint : t.journal.sendPoint ≤ s.journal.sendPoint)
    (hcfg : t.cfg.window = s.cfg.window) (hs : InWindow s) : InWindow t := by
  intro hne
  obtain ⟨ho, hu, hst, hle⟩ := hs (by omega)
  exact ⟨hrole.trans ho, hstate.trans hu, hstream hst, by rw [hcfg]; omega⟩

theorem InWindow.of_same {s t : State} (h : SameStream s t) (hs : InWindow s) : InWindow t := by
  obtain ⟨hrole, hlink, hstate, hpoint, hcfg⟩ := h
  exact .of_stream hrole hlink (by rw [streaming_of_state hstate]; exact id) hpoint.le hcfg hs

/-- With nothing in flight nothing exceeds the window. -/
theorem InWindow.of_zero {s : State} (h : s.journal.sendPoint = 0) : InWindow s := fun hne => absurd h hne

/-- Outside UP nothing is in flight. -/
theorem InWindow.zero_of_notUp {s : State} (hs : InWindow s) (h : s.link.state ≠ .up) : s.journal.sendPoint = 0 := by
  by_contra hne
  obtain ⟨-, hup, -⟩ := hs hne
  exact h hup

/-- Without a stream nothing is in flight. -/
theorem InWindow.zero_of_notStreaming {s : State} (hs : InWindow s) (h : s.streaming = false) :
    s.journal.sendPoint = 0 := by
  by_contra hne
  obtain ⟨-, -, hstream, -⟩ := hs hne
  simp [h] at hstream

namespace KeepsLink

theorem trans {s t u : State} (h1 : KeepsLink s t) (h2 : KeepsLink t u) : KeepsLink s u :=
  ⟨h2.link ∘ h1.link, h2.window ∘ h1.window⟩

theorem of_same {s t : State} (h : SameLink s t ∧ SameStream s t) : KeepsLink s t :=
  ⟨.of_same h.1, .of_same h.2⟩

theorem refl (s : State) : KeepsLink s s := ⟨id, id⟩

/-- An operation behind one that moves none of it. -/
theorem after {s t u : State} (h : KeepsLink t u) (hst : SameLink s t ∧ SameStream s t) : KeepsLink s u :=
  (of_same hst).trans h

/-- An operation followed by one that moves none of it. -/
theorem andThen {s t u : State} (h : KeepsLink s t) (htu : SameLink t u ∧ SameStream t u) : KeepsLink s u :=
  h.trans (of_same htu)

/-- An operation on the stream that moves nothing that goes with the link state. -/
theorem of_stream {s t : State} (h : SameLink s t) (hrole : t.role = s.role)
    (hstream : s.streaming = true → t.streaming = true) (hpoint : t.journal.sendPoint ≤ s.journal.sendPoint)
    (hcfg : t.cfg.window = s.cfg.window) : KeepsLink s t :=
  ⟨.of_same h, .of_stream hrole h.2.1 hstream hpoint hcfg⟩

/-- An operation of the transmitter. -/
theorem of_tx {s t : State} (h : SameLink s { t with tx := s.tx }) (hstream : SameStream s t)
    (hbuffer : s.tx.buffer = none → t.tx.buffer = none)
    (hoff : s.link.state = .off → s.tx.slot = none → s.tx.line.atRest = true → s.tx.breakPending = false →
      t.tx.slot = none ∧ t.tx.line.atRest = true ∧ t.tx.breakPending = false) : KeepsLink s t :=
  ⟨.of_tx h hbuffer hoff, .of_same hstream⟩

/-- An operation of the receiver. -/
theorem of_rx {s t : State} (h : SameLink s { t with rx := s.rx }) (hstream : SameStream s t)
    (hoff : s.link.state = .off → s.rx.phase = .hunting → s.rx.runReported = false →
      t.rx.phase = .hunting ∧ t.rx.runReported = false)
    (hreported : (s.rx.runReported = true → s.rx.phase = .hunting) → t.rx.runReported = true →
      t.rx.phase = .hunting) : KeepsLink s t :=
  ⟨.of_rx h hoff hreported, .of_same hstream⟩

/-- A move of a link that is not in UP, where nothing is in flight. -/
theorem of_notUp {s t : State} (hup : s.link.state ≠ .up) (hpoint : t.journal.sendPoint = s.journal.sendPoint)
    (h : LinkAgrees s → LinkAgrees t) : KeepsLink s t :=
  ⟨h, fun hs => .of_zero (hpoint.trans (hs.zero_of_notUp hup))⟩

/-- A reset (R128, R129, R137, R138). -/
theorem of_reset {s t : State} (hlink : t.link = Session.reset) (htx : t.tx = Transmitter.reset)
    (hrx : t.rx = Receiver.reset) (hjournal : t.journal = Journal.reset) (hcontrol : t.control = Control.defaults) :
    KeepsLink s t := by
  refine ⟨fun _ => ⟨?_, fun _ => ?_, ?_, ?_, ?_⟩, fun _ => .of_zero ?_⟩ <;> simp only [hlink, htx, hrx, hjournal, hcontrol]
  case refine_2 => exact ⟨rfl, rfl, rfl, rfl, rfl⟩
  all_goals simp [Control.defaults, Session.reset, Receiver.reset, Transmitter.reset, Journal.reset]

end KeepsLink

theorem keepsLink_unlessPorst {f : State → State} (h : ∀ s, KeepsLink s (f s)) (s : State) :
    KeepsLink s (unlessPorst f s) := by
  unfold unlessPorst
  split
  · exact .refl s
  · exact h s

end Sys2Proof.Machine
end

section
/-! The system port, the copy engine, the mirror controller, the transmitter and the apply engine at what goes with the
link state and at what is in flight. -/

namespace Sys2Proof.Machine

/-! ### The send point through the operations of the journal (R9) -/

@[simp] theorem Journal.merge_sendPoint (mask : Mask) (data : Line) (j : Journal) :
    (j.merge mask data).sendPoint = j.sendPoint := rfl

@[simp] theorem Journal.completeBlock_sendPoint (seq : Seq) (b : Fin 4) (status : CopyStatus) (j : Journal) :
    (j.completeBlock seq b status).sendPoint = j.sendPoint := rfl

@[simp] theorem Journal.emptied_sendPoint (j : Journal) : j.emptied.sendPoint = 0 := rfl

theorem Journal.acknowledged_sendPoint_le (n : Seq) (j : Journal) : (j.acknowledged n).sendPoint ≤ j.sendPoint :=
  Nat.sub_le _ _

@[simp] theorem appendPendingMark_sendPoint (s : State) :
    (appendPendingMark s).journal.sendPoint = s.journal.sendPoint := by
  unfold appendPendingMark
  (repeat' split) <;> rfl

@[simp] theorem acceptMark_sendPoint (drain : Bool) (s : State) :
    (acceptMark drain s).journal.sendPoint = s.journal.sendPoint := by
  simp [acceptMark]

@[simp] theorem acceptDrain_sendPoint (s : State) : (acceptDrain s).journal.sendPoint = s.journal.sendPoint := by
  simp [acceptDrain]

@[simp] theorem endCopy_sendPoint (r : CopyRecord) (s : State) :
    (endCopy r s).journal.sendPoint = s.journal.sendPoint := by
  unfold endCopy
  dsimp only
  split <;> simp

@[simp] theorem takeLine_sendPoint (r : CopyRecord) (answer : MemAnswer) (data : Line) (s : State) :
    (takeLine r answer data s).journal.sendPoint = s.journal.sendPoint := by
  unfold takeLine
  dsimp only
  (repeat' split) <;> simp

@[simp] theorem startTaken_sendPoint (b : Block) (s : State) :
    (startTaken b s).journal.sendPoint = s.journal.sendPoint := by
  unfold startTaken
  (repeat' split) <;> simp

/-! ### The stream through the moves of the mirror state (R101, R102) -/

@[simp] theorem checkSynced_streaming (s : State) : (checkSynced s).streaming = s.streaming := by
  unfold checkSynced
  split
  · rename_i h
    simp only [State.readyForSynced, Bool.and_eq_true, beq_iff_eq] at h
    simp [State.streaming, h.1.1]
  · rfl

theorem keepsLink_checkSynced (s : State) : KeepsLink s (checkSynced s) :=
  .of_stream (by simp) (by simp) (by simp) (by simp) (by simp)

theorem keepsLink_dirtyMarkReport (s : State) : KeepsLink s (dirtyMarkReport s) := by
  unfold dirtyMarkReport takeMarkReport
  split
  · split
    · exact .of_stream (by simp) (by simp) (by simp [State.streaming]) (by simp) (by simp)
    · exact .of_same (by simp)
  · exact .refl s

theorem keepsLink_appendAndCheck (s : State) : KeepsLink s (appendAndCheck s) := by
  unfold appendAndCheck
  dsimp only
  split
  · split
    · exact ((keepsLink_checkSynced { s with choices := s.choices + 1 }).andThen (by simp)).after (by simp)
    · exact (keepsLink_checkSynced _).after (by simp)
  · exact (keepsLink_checkSynced _).after (by simp)

theorem keepsLink_mirrorAckReport (s : State) : KeepsLink s (mirrorAckReport s) := by
  unfold mirrorAckReport
  split
  · exact (keepsLink_appendAndCheck _).after (by simp)
  · exact .refl s

theorem keepsLink_markPin (level : Bool) (s : State) : KeepsLink s (markPin level s) := by
  unfold markPin markPinRequest
  dsimp only
  (repeat' split) <;> exact .of_same (by simp)

theorem keepsLink_drainPin (level : Bool) (s : State) : KeepsLink s (drainPin level s) := by
  unfold drainPin drainPinRequest
  dsimp only
  (repeat' split) <;> exact .of_same (by simp)

/-! ### The system port -/

theorem sameLink_capture (t : Transaction) (s : State) :
    SameLink s (capture t s) ∧ SameStream s (capture t s) := by
  unfold capture
  (repeat' split) <;> simp

theorem keepsLink_systemAnswer (t : Transaction) (answer : MemAnswer) (data : Line) (s : State) :
    KeepsLink s (systemAnswer t answer data s) := by
  unfold systemAnswer originWriteOk
  dsimp only
  split
  · exact .of_same (by simp)
  · split
    · split
      · split
        · exact .of_same (sameLink_capture _ s)
        · exact .of_same (by simp)
      · exact .of_same (by simp)
    · exact .of_same (by simp)

theorem keepsLink_systemMemoryAnswer (answer : MemAnswer) (data : Line) (s : State) :
    KeepsLink s (systemMemoryAnswer answer data s) := by
  unfold systemMemoryAnswer
  split
  · split
    · split
      · exact (keepsLink_systemAnswer _ _ _ _).after (by simp)
      · exact .of_same (by simp)
    · unfold settleAbandoned
      split <;> exact .of_same (by simp)
    · exact .of_same (by simp)
    · exact .refl s
  · exact .refl s

theorem keepsLink_masterTransaction (r : MasterRequest) (s : State) : KeepsLink s (masterTransaction r s) := by
  unfold masterTransaction
  dsimp only
  (repeat' split) <;> exact .of_same (by simp)

theorem keepsLink_completionTaken (s : State) : KeepsLink s (completionTaken s) := by
  unfold completionTaken
  split <;> exact .of_same (by simp)

theorem keepsLink_stallExpiry (s : State) : KeepsLink s (stallExpiry s) := by
  unfold stallExpiry
  (repeat' split) <;> exact .of_same (by simp)

theorem keepsLink_heldWriteAckReport (s : State) : KeepsLink s (heldWriteAckReport s) := by
  unfold heldWriteAckReport releaseIntoJournal
  dsimp only
  (repeat' split) <;> exact .of_same (by simp)

theorem keepsLink_srstAssert (s : State) : KeepsLink s (srstAssert s) := by
  unfold srstAssert settleSrst
  (repeat' split) <;> exact .of_same (by simp)

/-! ### The copy engine -/

theorem keepsLink_takeCopyStart (s : State) : KeepsLink s (takeCopyStart s) := by
  unfold takeCopyStart
  dsimp only
  split
  · split
    · exact ((keepsLink_checkSynced { s with copy.pendingStart := false }).andThen (by simp)).after (by simp)
    · exact .of_same (by simp)
  · exact .refl s

theorem keepsLink_lineReadAnswer (answer : MemAnswer) (data : Line) (s : State) :
    KeepsLink s (lineReadAnswer answer data s) := by
  unfold lineReadAnswer copyAnswer
  dsimp only
  (repeat' split) <;> exact .of_same (by simp)

theorem keepsLink_pacingExpiry (s : State) : KeepsLink s (pacingExpiry s) := by
  unfold pacingExpiry
  split <;> exact .of_same (by simp)

/-! ### The control slot -/

theorem offerControl_off {s : State} (q : Seq) (body : FrameBody) (h : s.link.state = .off) :
    offerControl q body s = s := by
  simp [offerControl, h]

theorem keepsLink_offerControl (q : Seq) (body : FrameBody) (s : State) : KeepsLink s (offerControl q body s) :=
  .of_tx (by simp) (by simp) (by simp) fun h hslot hline hbreak => by
    rw [offerControl_off q body h]
    exact ⟨hslot, hline, hbreak⟩

theorem keepsLink_offerAck (s : State) : KeepsLink s (offerAck s) := (keepsLink_offerControl _ _ _).after (by simp)

theorem keepsLink_offerNak (s : State) : KeepsLink s (offerNak s) := (keepsLink_offerControl _ _ _).after (by simp)

/-! ### The apply engine -/

theorem keepsLink_applyEnd (s : State) : KeepsLink s (applyEnd s) := by
  unfold applyEnd
  dsimp only
  split
  · exact (keepsLink_offerAck _).after (by simp)
  · exact .of_same (by simp)

theorem keepsLink_applyFrame (f : Frame) (s : State) : KeepsLink s (applyFrame f s) := by
  unfold applyFrame
  split
  case h_3 => exact (keepsLink_applyEnd _).after (by simp)
  case h_4 =>
    unfold applyMark
    split <;> exact (keepsLink_applyEnd _).after (by simp)
  all_goals exact .of_same (by simp)

theorem keepsLink_judgeFrame (f : Frame) (s : State) : KeepsLink s (judgeFrame f s) := by
  unfold judgeFrame takeGap
  split; · exact .of_same (by simp)
  split; · exact (keepsLink_offerAck _).after (by simp)
  split; · exact keepsLink_applyFrame f s
  split; · exact (keepsLink_offerAck _).after (by simp)
  split
  · split
    · exact .of_same (by simp)
    · exact (keepsLink_offerNak _).after (by simp)
  · exact .of_same (by simp)

theorem keepsLink_applyTakeFrame (s : State) : KeepsLink s (applyTakeFrame s) := by
  unfold applyTakeFrame
  split
  · split
    · exact keepsLink_judgeFrame _ s
    · exact .refl s
  · exact .refl s

theorem keepsLink_advanceApply (s : State) : KeepsLink s (advanceApply s) := by
  unfold advanceApply
  split
  · split
    · exact .of_same (by simp)
    · exact keepsLink_applyEnd s
  · exact keepsLink_applyEnd s

theorem keepsLink_applyAnswer (answer : MemAnswer) (s : State) : KeepsLink s (applyAnswer answer s) := by
  have hnote : KeepsLink s (noteWrite answer s) := by
    unfold noteWrite
    split <;> exact .of_same (by simp)
  cases hphase : s.apply.phase with
  | writing =>
    rw [applyAnswer_writing answer hphase]
    exact hnote.trans (keepsLink_advanceApply _)
  | abandoning =>
    rw [applyAnswer_abandoning answer hphase]
    exact hnote.andThen (by simp)
  | idle => exact .of_same (by simp [applyAnswer, hphase])

theorem keepsLink_applyWriteAnswer (answer : MemAnswer) (s : State) : KeepsLink s (applyWriteAnswer answer s) := by
  unfold applyWriteAnswer
  dsimp only
  split
  · split
    · split
      · exact (keepsLink_applyAnswer _ _).after (by simp)
      · exact .of_same (by simp)
    · exact .refl s
  · exact .refl s

end Sys2Proof.Machine
end

section
/-! The transmitter, the link's moves and the frames received at what goes with the link state and at what is in
flight. -/

namespace Sys2Proof.Machine

/-! ### The transmitter -/

/-- A load that is taken: the entry at the send point and its frame (R18). -/
theorem offerLoad_cases (s : State) : offerLoad s = s ∨ ∃ e f, s.mayLoad = true ∧
    s.journal.entries[s.journal.sendPoint]? = some e ∧ offerLoad s = takeLoad e f s := by
  unfold offerLoad
  split
  · rename_i hmay
    split
    · rename_i e he
      split
      · rename_i f _
        exact .inr ⟨e, f, hmay, he, rfl⟩
      · exact .inl rfl
    · exact .inl rfl
  · exact .inl rfl

/-- The data holding buffer is filled in UP alone (R18, R150). -/
theorem linkAgrees_offerLoad {s : State} (hs : LinkAgrees s) : LinkAgrees (offerLoad s) := by
  obtain h | ⟨e, f, hmay, -, h⟩ := offerLoad_cases s
  · rwa [h]
  · obtain ⟨-, hup, -⟩ := (mayLoad_iff s).mp hmay
    rw [h]
    exact .of_up (by simpa using hs.enable.mpr (by simp [hup])) (by simpa using hup) (by simpa using hs.reported)
      (by simpa using hs.silence.mpr hup)

/-- A load finds fewer entries in flight than the window (R150). -/
theorem inWindow_offerLoad {s : State} (hagree : StatesAgree s) (hs : InWindow s) : InWindow (offerLoad s) := by
  obtain h | ⟨e, f, hmay, he, h⟩ := offerLoad_cases s
  · rwa [h]
  · obtain ⟨hrole, hup, -, hroom⟩ := (mayLoad_iff s).mp hmay
    have hstream : s.streaming = true := by
      by_contra hnot
      obtain ⟨hentries, -⟩ := hagree.1.quiet (by simpa using hnot)
      simp [hentries] at he
    have hpoint : (takeLoad e f s).journal.sendPoint = s.journal.sendPoint + 1 := by
      unfold takeLoad
      split <;> rfl
    rw [h]
    refine fun _ => ⟨by simpa using hrole, by simpa using hup, ?_, ?_⟩
    · rwa [streaming_of_state (s := s) (by simp)]
    · simp only [hpoint, takeLoad_keeps]
      exact hroom

theorem keepsLink_frameBoundary (s : State) : KeepsLink s (frameBoundary s) := by
  unfold frameBoundary
  split
  · rename_i hmay
    have hopen : s.link.state ≠ .off := by
      simp only [State.atBoundary, Bool.and_eq_true, bne_iff_ne] at hmay
      exact hmay.1.1
    refine .of_tx (by simp) (by simp) (fun hbuffer => ?_) fun hoff => absurd hoff hopen
    unfold boundaryTake
    split <;> simp_all
  · exact .refl s

theorem keepsLink_frameEnd (s : State) : KeepsLink s (frameEnd s) := by
  unfold frameEnd
  split
  · exact .of_tx (by simp) (by simp) (by simp) fun _ hslot _ hbreak => by simpa [TxLine.atRest] using ⟨hslot, hbreak⟩
  · exact .refl s

/-- A break begins outside OFF alone, where none is pending (R127, R128). -/
theorem keepsLink_breakStart (s : State) : KeepsLink s (breakStart s) := by
  unfold breakStart
  split
  · rename_i hpending
    split
    · exact .refl s
    · exact .refl s
    · exact .of_tx (by simp) (by simp) (by simp) fun _ _ _ hbreak => by simp [hpending] at hbreak
  · exact .refl s

theorem keepsLink_breakEnd (s : State) : KeepsLink s (breakEnd s) := by
  unfold breakEnd
  split
  · exact .of_tx (by simp) (by simp) (by simp) fun _ hslot _ hbreak => by simpa [TxLine.atRest] using ⟨hslot, hbreak⟩
  · exact .refl s

/-! ### The receiver -/

theorem receiving_iff (s : State) : s.receiving = true ↔ s.aligned := by
  simp [State.receiving, State.aligned]

theorem keepsLink_receiverAlign (s : State) : KeepsLink s (receiverAlign s) := by
  unfold receiverAlign
  split
  · rename_i h
    exact .of_rx (by simp) (by simp) (fun hoff => absurd hoff h.1) (by simp)
  · exact .refl s

theorem keepsLink_framingToHunting (s : State) : KeepsLink s (framingToHunting s) :=
  .of_rx (by simp) (by simp) (by simp) (by simp)

theorem keepsLink_rxFraming (c : FramingCheck) (s : State) : KeepsLink s (rxFraming c s) := by
  unfold rxFraming
  split
  · exact keepsLink_framingToHunting s
  · split
    · exact .of_rx (by simp) (by simp) (fun _ hphase _ => by simpa using hphase) (by simp)
    · exact .refl s

theorem keepsLink_rxTruncation (s : State) : KeepsLink s (rxTruncation s) := by
  unfold rxTruncation
  split
  · exact keepsLink_framingToHunting s
  · exact .refl s

/-- An aligned receiver stands in no reported run of space (R135). -/
theorem keepsLink_between {s : State} (h : s.aligned) : KeepsLink s { s with rx.phase := .between } := by
  obtain ⟨hopen, haligned⟩ := h
  exact .of_rx (by simp) (by simp) (fun hoff => absurd hoff hopen)
    fun hreported hrun => absurd (hreported hrun) haligned

theorem keepsLink_receiveBytes {dispose : Frame → State → State} {bytes : List Byte}
    (h : ∀ f s, KeepsLink s (dispose f s)) (s : State) : KeepsLink s (receiveBytes dispose bytes s) := by
  unfold receiveBytes
  split
  · rename_i hreceiving
    have hbetween := keepsLink_between ((receiving_iff s).mp hreceiving)
    split
    · exact keepsLink_framingToHunting s
    · exact hbetween.andThen (by simp)
    · exact hbetween.andThen (by simp)
    · exact hbetween.trans (h _ _)
  · exact .refl s

/-! ### Valid frames -/

/-- The silence timer is restarted in UP alone (R149). -/
theorem keepsLink_noteValidFrame (n : SessionNo) (s : State) : KeepsLink s (noteValidFrame n s) := by
  unfold noteValidFrame
  split
  · rename_i h
    refine ⟨fun hs => ?_, .of_same (by simp)⟩
    exact .of_up (hs.enable.mpr (by simp [h.1])) h.1 hs.reported rfl
  · exact .refl s

theorem keepsLink_disposeData (bytes : List Byte) (f : Frame) (s : State) : KeepsLink s (disposeData bytes f s) := by
  have hplace : KeepsLink s (placeFrame f bytes s) := by
    unfold placeFrame
    dsimp only
    split <;> exact (keepsLink_noteValidFrame f.session s).andThen (by simp)
  unfold disposeData
  split
  case h_6 => exact .refl s
  all_goals exact hplace

theorem keepsLink_acknowledgeThrough (n : Seq) (s : State) : KeepsLink s (acknowledgeThrough n s) := by
  have hstream : (acknowledgeThrough n s).streaming = s.streaming := streaming_of_state (by simp)
  refine .of_stream (by simp) (by simp) (by rw [hstream]; exact id) ?_ (by simp)
  rw [acknowledgeThrough_journal]
  exact Journal.acknowledged_sendPoint_le n _

theorem keepsLink_rewindTo (target : Seq) (s : State) : KeepsLink s (rewindTo target s) := by
  have hstream : (rewindTo target s).streaming = s.streaming := streaming_of_state (by simp)
  refine ⟨.of_tx (by simp) (fun h => by simp [rewindTo_eq, h]) fun _ hslot hline hbreak => ?_, ?_⟩
  · simpa using ⟨hslot, hline, hbreak⟩
  · exact .of_stream (by simp) (by simp) (by rw [hstream]; exact id) (by simp [rewindTo_eq]) (by simp)

theorem keepsLink_noted (n : SessionNo) (fault : Bool) (s : State) :
    KeepsLink s (reportReplicaFault fault (noteValidFrame n s)) :=
  (keepsLink_noteValidFrame n s).andThen (by simp)

theorem keepsLink_protocolNoted (n : SessionNo) (fault : Bool) (s : State) :
    KeepsLink s (bump .protocol (reportReplicaFault fault (noteValidFrame n s))) :=
  (keepsLink_noted n fault s).andThen (by simp)

theorem keepsLink_disposeAck (f : Frame) (s : State) : KeepsLink s (disposeAck f s) := by
  unfold disposeAck takeAck
  dsimp only
  split
  · split
    · split
      · exact (keepsLink_noted _ _ s).trans (keepsLink_acknowledgeThrough _ _)
      · exact keepsLink_protocolNoted _ _ s
    · exact .of_same (by simp)
  · exact .refl s

theorem keepsLink_disposeNak (f : Frame) (s : State) : KeepsLink s (disposeNak f s) := by
  unfold disposeNak takeNak
  dsimp only
  split
  · split
    · split
      · exact ((keepsLink_noted _ _ s).trans (keepsLink_acknowledgeThrough _ _)).trans (keepsLink_rewindTo _ _)
      · exact keepsLink_protocolNoted _ _ s
    · exact .of_same (by simp)
  · exact .refl s

/-! ### Into UP -/

/-- The origin enters UP from CONNECTING with the silence timer running (R145, R149). -/
theorem keepsLink_originEnterUp (fresh : Bool) {s : State} (h : s.link.state = .connecting) :
    KeepsLink s (originEnterUp fresh s) := by
  refine .of_notUp (by simp [h]) (by simp [originEnterUp]) fun hs => ?_
  exact .of_up (by simpa [originEnterUp] using hs.enable.mpr (by simp [h])) (by simp [originEnterUp])
    (by simpa [originEnterUp] using hs.reported) (by simp [originEnterUp, State.silence])

theorem keepsLink_disposeHelloAck (f : Frame) (s : State) : KeepsLink s (disposeHelloAck f s) := by
  unfold disposeHelloAck takeHelloAck
  split
  · split
    · rename_i hconnecting
      split
      · exact keepsLink_originEnterUp _ hconnecting
      · exact .of_same (by simp)
    · split
      · exact keepsLink_noteValidFrame _ s
      · exact .of_same (by simp)
    all_goals exact .of_same (by simp)
  · exact .refl s

/-- An answered HELLO starts the silence timer (R146, R149). -/
theorem answerHello_silence (f : Frame) (s : State) : (answerHello f s).link.silenceTimer = some s.cfg.silence.toNat := by
  unfold answerHello
  dsimp only
  split <;> simp [State.silence]

/-- A replica that answers a HELLO is in UP with the silence timer running (R146, R149). -/
theorem keepsLink_answerHello (f : Frame) {s : State} (h : s.link.state = .connecting ∨ s.link.state = .up) :
    KeepsLink s (answerHello f s) := by
  obtain ⟨hup, -⟩ := answerHello_place f h
  have hopen : s.link.state ≠ .off := by rcases h with h | h <;> simp [h]
  refine ⟨fun hs => ?_, fun hs hne => ?_⟩
  · exact .of_up (by simpa using hs.enable.mpr hopen) hup (by simpa using hs.reported) (by simp [answerHello_silence])
  · obtain ⟨hrole, -, hstream, hle⟩ := hs (by simpa using hne)
    exact ⟨by simpa using hrole, hup, by rwa [streaming_of_state (s := s) (by simp)], by simpa using hle⟩

theorem keepsLink_disposeHello (f : Frame) (s : State) : KeepsLink s (disposeHello f s) := by
  unfold disposeHello takeHello
  split
  · split
    · rename_i hanswers
      simp only [State.answersHello, Bool.and_eq_true, Bool.or_eq_true, beq_iff_eq] at hanswers
      split
      · exact .of_same (by simp)
      · exact keepsLink_answerHello f hanswers.1
    · split
      · exact .of_same (by simp)
      · exact .refl s
  · exact .refl s

/-! ### Out of UP -/

/-- At the end of a stream nothing is in flight (R25, R103). -/
theorem leaveUp_sendPoint (dest : LeaveTo) (withBreak counted : Bool) {s : State} (hs : InWindow s) :
    (leaveUp dest withBreak counted s).journal.sendPoint = 0 := by
  have hrole : (linkOutOfUp dest withBreak counted s).role = s.role := by
    obtain ⟨⟨-, hrole, -⟩, -⟩ := linkOutOfUp_same dest withBreak counted s
    exact hrole
  have hstate : (linkOutOfUp dest withBreak counted s).mirror.state = s.mirror.state := by
    obtain ⟨-, hstate, -⟩ := linkOutOfUp_same dest withBreak counted s
    exact hstate
  have hjournal : (linkOutOfUp dest withBreak counted s).journal = s.journal := by
    unfold linkOutOfUp
    split <;> simp
  have hstreaming := streaming_of_state hstate
  rw [leaveUp_eq]
  generalize linkOutOfUp dest withBreak counted s = u at *
  by_cases hstream : s.role = .origin ∧ s.streaming = true
  · rw [reportLeftUp_origin (hrole.trans hstream.1), if_pos (hstreaming.trans hstream.2)]
    simp
  · have hzero : s.journal.sendPoint = 0 := by
      by_contra hne
      obtain ⟨horigin, -, hst, -⟩ := hs hne
      exact hstream ⟨horigin, hst⟩
    have hpoint : (reportLeftUp u).journal.sendPoint = u.journal.sendPoint ∨
        (reportLeftUp u).journal.sendPoint = 0 := by
      unfold reportLeftUp
      split
      · rw [originLeftUp_eq]
        split <;> simp
      · exact .inl (by simp)
    rcases hpoint with hpoint | hpoint
    · rw [hpoint, hjournal, hzero]
    · exact hpoint

/-- The link leaves UP for DOWN or CONNECTING (R156, R158, R160). -/
theorem keepsLink_leaveUp {dest : LeaveTo} (withBreak counted : Bool) {s : State} (hdest : dest ≠ .off)
    (hup : s.link.state = .up) : KeepsLink s (leaveUp dest withBreak counted s) := by
  refine ⟨fun hs => ?_, fun hs => .of_zero (leaveUp_sendPoint _ _ _ hs)⟩
  obtain ⟨hphase, hrun⟩ := leaveUp_rx withBreak counted s hdest
  refine .of_between (by simpa using hs.enable.mpr (by simp [hup])) ?_ ?_ (by rw [hphase, hrun]; exact hs.reported)
    (leaveUp_buffer _ _ _ s) (leaveUp_silence _ _ _ s)
  · rw [leaveUp_state]
    exact fun h => hdest ((LeaveTo.state_eq_off_iff _ _).mp h)
  · rw [leaveUp_state]
    exact LeaveTo.state_ne_up _ _

theorem keepsLink_silenceExpiry (s : State) : KeepsLink s (silenceExpiry s) := by
  unfold silenceExpiry
  split
  · rename_i h
    exact keepsLink_leaveUp _ _ (by simp) h.2
  · exact .refl s

theorem keepsLink_ackExpiry (s : State) : KeepsLink s (ackExpiry s) := by
  have hstep : KeepsLink s (ackTimeoutStep s) :=
    ((keepsLink_rewindTo s.journal.headSeq { s with link.ackTimer := none }).after (by simp)).andThen
      (by simp [ackTimeoutStep])
  unfold ackExpiry
  dsimp only
  split
  · rename_i h
    split
    · exact hstep.trans (keepsLink_leaveUp _ _ (by simp) ((ackTimeoutStep_link s).1.trans h.2))
    · exact hstep
  · exact .refl s

/-- A run of space that is reported finds the receiver hunting, or leaves it so (R131, R135). -/
theorem breakStopBit_phase {s : State} (h : s.link.state ≠ .off) : (breakStopBit s).rx.phase = .hunting := by
  unfold breakStopBit
  split
  · simp
  · rename_i hreceiving
    simpa [State.receiving, h] using hreceiving

theorem keepsLink_breakDetected (s : State) : KeepsLink s (breakDetected s) := by
  unfold breakDetected takeBreakReport
  dsimp only
  split
  · exact .refl s
  · rename_i h
    rw [not_or] at h
    have hreported : KeepsLink s { breakStopBit s with rx.runReported := true } :=
      .of_rx (by simp) (by simp) (fun hoff => absurd hoff h.1) fun _ _ => breakStopBit_phase h.1
    split
    · rename_i hup
      exact hreported.trans (keepsLink_leaveUp _ _ (by simp) hup)
    · exact hreported

theorem keepsLink_renewSession (s : State) : KeepsLink s (renewSession s) := by
  unfold renewSession
  split
  · rename_i h
    exact keepsLink_leaveUp _ _ (by simp) h
  · exact .refl s

/-! ### The link's other moves -/

theorem enterDown_state (s : State) :
    (enterDown s).link.state = if s.role = .origin then .down else .connecting := by
  cases hrole : s.role <;> simp [enterDown, hrole]

theorem enterDown_silence (s : State) : (enterDown s).link.silenceTimer = s.link.silenceTimer := by
  cases hrole : s.role <;> simp [enterDown, hrole]

theorem requestBreak_buffer (s : State) : (requestBreak s).tx.buffer = none :=
  (transmitterLeavesUp_emptied true s).2

/-- The link enters DOWN from OFF or CONNECTING (R141, R157). -/
theorem linkAgrees_enterDown {s : State} (henable : s.control.linkEnable = true)
    (hreported : s.rx.runReported = true → s.rx.phase = .hunting) (hbuffer : s.tx.buffer = none)
    (hsilence : s.link.silenceTimer = none) : LinkAgrees (enterDown s) := by
  refine .of_between (by simpa using henable) ?_ ?_ (by simpa using hreported) (by simpa using hbuffer)
    (by rw [enterDown_silence, hsilence])
  all_goals
    rw [enterDown_state]
    split <;> simp

theorem keepsLink_resetLink {s : State} (h : s.link.state = .up ∨ s.link.state = .connecting) :
    KeepsLink s (resetLink s) := by
  unfold resetLink
  split
  · rename_i hup
    exact keepsLink_leaveUp _ _ (by simp) hup
  · rename_i hup
    refine .of_notUp hup (by simp) fun hs => ?_
    have henable := hs.enable.mpr (by rcases h with h | h <;> simp [h])
    exact linkAgrees_enterDown (by simpa using henable) (by simpa using hs.reported) (requestBreak_buffer _)
      (by simp [stopSession])

/-- The link enters OFF: everything that goes with it is at rest (R128, R129, R135, R137). -/
theorem linkAgrees_enterOff {s : State} (henable : s.control.linkEnable = false) : LinkAgrees (enterOff s) := by
  obtain ⟨hphase, hrun⟩ := enterOff_rx s
  refine .of_off (by simpa using henable) (enterOff_link s).1 ⟨hphase, hrun, ?_⟩ (by simp [enterOff_tx])
    (by simp [enterOff_link_eq])
  simp [enterOff_tx, lineIntoOff_atRest]

theorem keepsLink_setLinkEnable (s : State) : KeepsLink s (setLinkEnable s) := by
  unfold setLinkEnable
  dsimp only
  split
  · rename_i hoff
    refine .of_notUp (by simp [hoff]) (by simp) fun hs => ?_
    have hsilence : s.link.silenceTimer = none := by
      simpa [hoff] using (not_congr hs.silence).mpr (by simp [hoff])
    exact linkAgrees_enterDown rfl hs.reported (hs.buffer (by simp [hoff])) hsilence
  · rename_i hopen
    exact ⟨fun hs => ⟨iff_of_true rfl hopen, hs.off, hs.reported, hs.buffer, hs.silence⟩, .of_same (by simp)⟩

theorem keepsLink_clearLinkEnable (s : State) : KeepsLink s (clearLinkEnable s) := by
  unfold clearLinkEnable
  dsimp only
  split
  · refine ⟨fun _ => ?_, fun hs => .of_zero (leaveUp_sendPoint (s := { s with control.linkEnable := false }) _ _ _ hs)⟩
    exact .of_off (by simp) (leaveUp_state _ _ _ _) (leaveUp_off _ _ _) (leaveUp_buffer _ _ _ _) (leaveUp_silence _ _ _ _)
  · rename_i hdown
    exact .of_notUp (by simp [hdown]) (by simp) fun _ => linkAgrees_enterOff rfl
  · rename_i hconnecting
    exact .of_notUp (by simp [hconnecting]) (by simp) fun _ => linkAgrees_enterOff rfl
  · rename_i hoff
    exact ⟨fun hs => ⟨iff_of_false (by simp) (by simp [hoff]), hs.off, hs.reported, hs.buffer, hs.silence⟩,
      .of_same (by simp)⟩

theorem keepsLink_setEnable (v : Bool) (s : State) : KeepsLink s (setEnable v s) := by
  cases v with
  | true => exact keepsLink_setLinkEnable s
  | false => exact keepsLink_clearLinkEnable s

/-- The holdoff's end opens CONNECTING, and the timer's other expiries offer a control frame (R142). -/
theorem keepsLink_helloKeepaliveExpiry (s : State) : KeepsLink s (helloKeepaliveExpiry s) := by
  unfold helloKeepaliveExpiry
  dsimp only
  split
  · split
    · rename_i hdown
      refine .of_notUp (by simp_all) (by simp) fun hs => ?_
      have hopen : s.link.state ≠ .off := by simp_all
      have hup : s.link.state ≠ .up := by simp_all
      refine .of_between (by simpa using hs.enable.mpr hopen) (by simp [enterConnecting_eq])
        (by simp [enterConnecting_eq]) (by simpa using hs.reported) (by simpa using hs.buffer hup) ?_
      simpa [enterConnecting_eq] using (not_congr hs.silence).mpr hup
    · exact (keepsLink_offerControl _ _ _).after (by simp)
    · exact (keepsLink_offerControl _ _ _).after (by simp)
    · exact .of_same (by simp)
  · exact .refl s

end Sys2Proof.Machine
end

section
/-! Every command at what goes with the link state and at what is in flight: resets, the service port, and the step. -/

namespace Sys2Proof.Machine

/-! ### Resets -/

theorem keepsLink_takeSoftReset (pins : RequestPins) (selected : Bool) (s : State) :
    KeepsLink s (takeSoftReset pins selected s) := by
  unfold takeSoftReset
  split
  · exact .of_reset rfl rfl rfl rfl rfl
  · exact .refl s

theorem keepsLink_porstAssert (s : State) : KeepsLink s (porstAssert s) := .of_reset rfl rfl rfl rfl rfl

theorem linkAgrees_porstDeassert (roleHigh : Bool) (pins : RequestPins) (selected : Bool) {s : State}
    (hs : LinkAgrees s) : LinkAgrees (porstDeassert roleHigh pins selected s) := by
  unfold porstDeassert
  split <;> exact hs.of_same (by simp)

/-- A part held under PORST is DISABLED and has nothing in flight, whatever ROLE is sampled (R193). -/
theorem inWindow_porstDeassert (roleHigh : Bool) (pins : RequestPins) (selected : Bool) {s : State}
    (hporst : s.porstOk = true) (hs : InWindow s) : InWindow (porstDeassert roleHigh pins selected s) := by
  unfold porstDeassert
  split
  · rename_i hp
    simp only [State.porstOk, hp, Bool.not_true, Bool.false_or, Bool.and_eq_true, beq_iff_eq] at hporst
    obtain ⟨⟨⟨hstate, -⟩, -⟩, -⟩ := hporst
    exact .of_zero (hs.zero_of_notStreaming (by simp [State.streaming, hstate]))
  · exact hs

/-! ### START and STOP -/

/-- START finds nothing in flight, and starts the origin's stream with a new session (R99, R159). -/
theorem keepsLink_startOrigin {s : State} (hrole : s.role = .origin) (hdisabled : s.roleDisabled = true) :
    KeepsLink s (startOrigin s) := by
  have hstate : s.mirror.state = .disabled := by simpa [State.roleDisabled, hrole] using hdisabled
  unfold startOrigin
  dsimp only
  refine KeepsLink.trans ⟨.of_same (by simp), fun hs => .of_zero ?_⟩ (keepsLink_renewSession _)
  simpa using hs.zero_of_notStreaming (by simp [State.streaming, hstate])

/-- STOP empties the data holding buffer and leaves nothing in flight (R104). -/
theorem keepsLink_stopOrigin (s : State) : KeepsLink s (stopOrigin s) := by
  refine KeepsLink.trans ⟨?_, fun _ => .of_zero (by rw [stopMirroring_journal])⟩ (keepsLink_renewSession _)
  exact .of_tx (by simp) (by simp [stopMirroring_tx]) fun _ hslot hline hbreak => by
    simpa [stopMirroring_tx] using ⟨hslot, hline, hbreak⟩

theorem keepsLink_stopReplica (s : State) : KeepsLink s (stopReplica s) := by
  have hended : KeepsLink s (endReplica s) := .of_same (by simp [endReplica])
  unfold stopReplica
  dsimp only
  split
  · exact hended.trans (keepsLink_leaveUp _ _ (by simp) ‹_›)
  · exact hended

/-! ### RESEED and the settings -/

theorem seedDirty_streaming (s : State) : (seedDirty s).streaming = s.streaming := rfl

/-- RESEED leaves the origin in its stream, or outside it (R105). -/
theorem reseed_streaming (s : State) : (reseed s).streaming = s.streaming := by
  have hexamine : ∀ u : State, (examineCopy u).streaming = u.streaming := fun u => streaming_of_state (by simp)
  cases hstate : s.mirror.state with
  | disabled => simp [reseed, seedDirty, hstate, State.streaming]
  | tracking => simp [reseed, seedDirty, hstate, State.streaming]
  | resyncing =>
    have hreseed : reseed s = examineCopy (checkSynced (seedDirty { s with mirror.incomplete := false })) := by
      simp [reseed, seedDirty, hstate]
    rw [hreseed, hexamine, checkSynced_streaming, seedDirty_streaming]
    rfl
  | synced =>
    unfold reseed
    simp only [seedDirty, hstate]
    split <;> simp [State.streaming, hstate]

theorem keepsLink_reseed (s : State) : KeepsLink s (reseed s) :=
  .of_stream (by simp) (by simp) (by rw [reseed_streaming]; exact id) (by simp) (by simp)

theorem writeAckcfg_window {v : Word} {c d : Settings} (h : writeAckcfg v c = some d) : d.window = c.window := by
  unfold writeAckcfg at h
  dsimp only at h
  split at h <;> cases h
  rfl

theorem writeKeepcfg_window {v : Word} {c d : Settings} (h : writeKeepcfg v c = some d) : d.window = c.window := by
  unfold writeKeepcfg at h
  dsimp only at h
  split at h <;> cases h
  rfl

theorem writePacecfg_window {v : Word} {c d : Settings} (h : writePacecfg v c = some d) : d.window = c.window := by
  unfold writePacecfg at h
  dsimp only at h
  split at h <;> cases h
  rfl

theorem writeCopycfg_window {v : Word} {c d : Settings} (h : writeCopycfg v c = some d) : d.window = c.window := by
  unfold writeCopycfg at h
  dsimp only at h
  split at h <;> cases h
  rfl

/-- LINKCFG, which alone moves the window, is taken in OFF, where nothing is in flight (R140, R150). -/
theorem keepsLink_linkcfg (c : Settings) {s : State} (hoff : s.link.state = .off) : KeepsLink s { s with cfg := c } :=
  ⟨.of_same (by simp), fun hs => .of_zero (hs.zero_of_notUp (by simp [hoff]))⟩

/-! ### The service port -/

theorem keepsLink_servedStep {s t : State} (h : ServedStep s t) : KeepsLink s t := by
  cases h with
  | softReset pins selected => exact keepsLink_takeSoftReset pins selected s
  | startOrigin hrole hdisabled => exact keepsLink_startOrigin hrole hdisabled
  | startReplica => exact .of_same (by simp [startReplica])
  | stopOrigin => exact keepsLink_stopOrigin s
  | stopReplica => exact keepsLink_stopReplica s
  | reseed => exact keepsLink_reseed s
  | linkReset hlink => exact keepsLink_resetLink (by simpa using hlink)
  | linkEnable v => exact keepsLink_setEnable v s
  | merge v => exact .of_same (by simp [setMerge])
  | arb v => exact .of_same (by simp [setArb])
  | pace v => exact .of_same (by simp [setPace])
  | linkcfg v c hoff => exact keepsLink_linkcfg c hoff
  | ackcfg v c hc => exact .of_same (by simp [writeAckcfg_window hc])
  | keepcfg v c hc => exact .of_same (by simp [writeKeepcfg_window hc])
  | pacecfg v c hc => exact .of_same (by simp [writePacecfg_window hc])
  | copycfg v c hc => exact .of_same (by simp [writeCopycfg_window hc])
  | _ => exact .of_same (by simp)

theorem keepsLink_served {s t : State} (h : Served s t) : KeepsLink s t :=
  h.keeps .refl .trans keepsLink_servedStep

/-! ### The step -/

/-- Every command but a load, which rests on the agreement of the states, and PORST's deassertion, at which the role is
sampled. -/
theorem keepsLink_exec {c : Instr} {s t : State} (hload : c ≠ .load) (hporst : movesPorst c = false)
    (h : exec c s = .next t) : KeepsLink s t := by
  by_cases hservice : c.isServiceCommand = true
  · exact keepsLink_served (served_exec hservice h)
  have held : ∀ {f : State → State}, (∀ s, KeepsLink s (f s)) → KeepsLink s (unlessPorst f s) :=
    fun hf => keepsLink_unlessPorst hf s
  cases c <;> simp only [Instr.isServiceCommand, not_true_eq_false] at hservice <;>
    obtain rfl := (Host.Outcome.next.inj h)
  case masterTransaction r => exact held (keepsLink_masterTransaction r)
  case memoryReady => exact .of_same (by simp)
  case systemMemoryAnswer beats data => exact keepsLink_systemMemoryAnswer _ data s
  case completionTaken => exact held keepsLink_completionTaken
  case stallTimerExpiry => exact held keepsLink_stallExpiry
  case heldWriteAckReport => exact held keepsLink_heldWriteAckReport
  case dirtyMarkReport => exact held keepsLink_dirtyMarkReport
  case mirrorAckReport => exact held keepsLink_mirrorAckReport
  case copyStart => exact held keepsLink_takeCopyStart
  case copyPacingTimerExpiry => exact held keepsLink_pacingExpiry
  case lineReadAnswer beats data => exact keepsLink_lineReadAnswer _ data s
  case load => exact absurd rfl hload
  case frameBoundary => exact held keepsLink_frameBoundary
  case frameEnd => exact held keepsLink_frameEnd
  case breakStart => exact held keepsLink_breakStart
  case breakEnd => exact held keepsLink_breakEnd
  case receiverAlign => exact held keepsLink_receiverAlign
  case rxFraming c => exact held (keepsLink_rxFraming c)
  case rxTruncation => exact held keepsLink_rxTruncation
  case dataFrameReceived bytes => exact held (keepsLink_receiveBytes (keepsLink_disposeData bytes))
  case helloReceived bytes => exact held (keepsLink_receiveBytes keepsLink_disposeHello)
  case helloAckReceived bytes => exact held (keepsLink_receiveBytes keepsLink_disposeHelloAck)
  case ackReceived bytes => exact held (keepsLink_receiveBytes keepsLink_disposeAck)
  case nakReceived bytes => exact held (keepsLink_receiveBytes keepsLink_disposeNak)
  case helloKeepaliveTimerExpiry => exact held keepsLink_helloKeepaliveExpiry
  case silenceTimerExpiry => exact held keepsLink_silenceExpiry
  case ackTimerExpiry => exact held keepsLink_ackExpiry
  case breakDetected => exact held keepsLink_breakDetected
  case applyTakeFrame => exact held keepsLink_applyTakeFrame
  case applyWriteAnswer beats => exact keepsLink_applyWriteAnswer _ s
  case markPinEdge level => exact held (keepsLink_markPin level)
  case drainPinEdge level => exact held (keepsLink_drainPin level)
  case softResetTaken pins selected => exact held (keepsLink_takeSoftReset pins selected)
  case srstAssert => exact keepsLink_srstAssert s
  case srstDeassert => exact .of_same (by simp [srstDeassert])
  case porstAssert => exact keepsLink_porstAssert s
  case porstDeassert => simp [movesPorst] at hporst

theorem linkAgrees_exec {c : Instr} {s t : State} (h : exec c s = .next t) (hs : LinkAgrees s) : LinkAgrees t := by
  by_cases hload : c = .load
  · subst hload
    obtain rfl := Host.Outcome.next.inj h
    unfold unlessPorst
    split
    · exact hs
    · exact linkAgrees_offerLoad hs
  cases hporst : movesPorst c with
  | true =>
    obtain rfl | ⟨roleHigh, pins, selected, rfl⟩ := movesPorst_cases hporst <;> obtain rfl := Host.Outcome.next.inj h
    · exact (keepsLink_porstAssert s).link hs
    · exact linkAgrees_porstDeassert roleHigh pins selected hs
  | false => exact (keepsLink_exec hload hporst h).link hs

theorem inWindow_exec {c : Instr} {s t : State} (h : exec c s = .next t) (hstates : s.statesOk = true)
    (hs : InWindow s) : InWindow t := by
  obtain ⟨hagree, hporstOk⟩ := (statesOk_iff s).mp hstates
  by_cases hload : c = .load
  · subst hload
    obtain rfl := Host.Outcome.next.inj h
    unfold unlessPorst
    split
    · exact hs
    · exact inWindow_offerLoad hagree hs
  cases hporst : movesPorst c with
  | true =>
    obtain rfl | ⟨roleHigh, pins, selected, rfl⟩ := movesPorst_cases hporst <;> obtain rfl := Host.Outcome.next.inj h
    · exact (keepsLink_porstAssert s).window hs
    · exact inWindow_porstDeassert roleHigh pins selected hporstOk hs
  | false => exact (keepsLink_exec hload hporst h).window hs

theorem linkAgrees_step {s t : State} (h : step s = .next t) (hs : LinkAgrees s) : LinkAgrees t := by
  unfold step at h
  split at h
  · obtain rfl := Host.Outcome.next.inj h
    exact (keepsLink_served (served_serviceByteTime s)).link hs
  · exact linkAgrees_exec h (hs.of_same (by simp))

theorem inWindow_step {s t : State} (h : step s = .next t) (hstates : s.statesOk = true) (hs : InWindow s) :
    InWindow t := by
  unfold step at h
  split at h
  · obtain rfl := Host.Outcome.next.inj h
    exact (keepsLink_served (served_serviceByteTime s)).window hs
  · exact inWindow_exec h hstates (hs.of_same (by simp))

/-- Settles O57: each command keeps what goes with the link state, and in agreeing states what is in flight. -/
theorem stepsKeepLinkPartsAndWindow : Obligations.StepsKeepLinkPartsAndWindow := by
  unfold Obligations.StepsKeepLinkPartsAndWindow
  refine ⟨fun s t h hs => ?_, fun s t h hwf hstates hs => ?_⟩
  · exact (linkOk_iff t).mpr (linkAgrees_step h ((linkOk_iff s).mp hs))
  · obtain ⟨hagree, -⟩ := (statesOk_iff s).mp hstates
    exact (inWindow_step h hstates ((inWindow_iff hwf hagree).mpr hs)).windowOk

end Sys2Proof.Machine
end

section
/-! The receiver's checks on the bytes of a whole frame: whatever its payload, its fields read back (spec/07, 7.2;
R122, R123, R131, R132). -/

namespace Sys2Proof.Machine

/-! ### Runs of equal pieces -/

/-- Pieces of one length: behind the first `i` of them stand the others. -/
theorem drop_flatMap_of_length {α β : Type} {g : α → List β} {n : Nat} (hg : ∀ a, (g a).length = n) (l : List α)
    (i : Nat) : (l.flatMap g).drop (n * i) = (l.drop i).flatMap g := by
  induction i generalizing l with
  | zero => simp
  | succ i ih =>
    cases l with
    | nil => simp
    | cons a l =>
      rw [List.flatMap_cons, List.drop_succ_cons, ← ih, Nat.mul_succ, Nat.add_comm, ← List.drop_drop, ← hg a,
        List.drop_left]

/-- The piece of the `i`-th element, followed by those of the later ones. -/
theorem drop_flatMap_eq {α β : Type} {g : α → List β} {n : Nat} (hg : ∀ a, (g a).length = n) {l : List α} {i : Nat}
    {a : α} (h : l[i]? = some a) : (l.flatMap g).drop (n * i) = g a ++ (l.drop (i + 1)).flatMap g := by
  obtain ⟨hi, rfl⟩ := List.getElem?_eq_some_iff.mp h
  rw [drop_flatMap_of_length hg, List.drop_eq_getElem_cons hi, List.flatMap_cons]

/-! ### A header and its payload -/

/-- The bytes that a CRC covers: the header, with the length of the payload, and the payload (R122, R123). -/
def headed (byte0 byte1 : Byte) (seq : Seq) (payload : List Byte) : List Byte :=
  byte0 :: byte1 :: (leBytes 4 seq.toNat ++ leBytes 2 payload.length ++ payload)

theorem covered_eq_headed (f : Frame) :
    f.covered = headed (f.body.code ++ f.session : Byte) f.body.flags f.seq f.body.payload := rfl

@[simp] theorem headed_length (byte0 byte1 : Byte) (seq : Seq) (payload : List Byte) :
    (headed byte0 byte1 seq payload).length = 8 + payload.length := by
  simp [headed]
  omega

theorem headed_seq (byte0 byte1 : Byte) (seq : Seq) (payload tail : List Byte) :
    fieldAt (headed byte0 byte1 seq payload ++ tail) 2 4 = seq.toNat := by
  have hlt : seq.toNat < 256 ^ 4 := seq.isLt
  have hshape : headed byte0 byte1 seq payload ++ tail =
      [byte0, byte1] ++ (leBytes 4 seq.toNat ++ (leBytes 2 payload.length ++ payload ++ tail)) := by
    simp [headed]
  rw [hshape, fieldAt_append _ _ _ 2 4 rfl (by simp), ofLeBytes_leBytes_of_lt _ _ hlt]

theorem headed_payloadLength (byte0 byte1 : Byte) (seq : Seq) (payload tail : List Byte) (h : payload.length < 65536) :
    fieldAt (headed byte0 byte1 seq payload ++ tail) 6 2 = payload.length := by
  have hshape : headed byte0 byte1 seq payload ++ tail =
      (byte0 :: byte1 :: leBytes 4 seq.toNat) ++ (leBytes 2 payload.length ++ (payload ++ tail)) := by
    simp [headed]
  rw [hshape, fieldAt_append _ _ _ 6 2 (by simp) (by simp), ofLeBytes_leBytes_of_lt _ _ h]

/-- A field of the payload: from byte 8 of the frame on. -/
theorem headed_field (byte0 byte1 : Byte) (seq : Seq) {pre mid post payload : List Byte} (tail : List Byte) {i n : Nat}
    (h : payload = pre ++ (mid ++ post)) (hi : 8 + pre.length = i) (hn : mid.length = n) :
    fieldAt (headed byte0 byte1 seq payload ++ tail) i n = ofLeBytes mid := by
  have hshape : headed byte0 byte1 seq payload ++ tail =
      (byte0 :: byte1 :: (leBytes 4 seq.toNat ++ leBytes 2 payload.length ++ pre)) ++ (mid ++ (post ++ tail)) := by
    simp [headed, h]
  rw [hshape, fieldAt_append _ _ _ i n (by simp; omega) hn]

/-- A number in the payload reads back. -/
theorem headed_number (byte0 byte1 : Byte) (seq : Seq) (tail pre post : List Byte) {payload : List Byte} {i n x : Nat}
    (h : payload = pre ++ (leBytes n x ++ post)) (hi : 8 + pre.length = i) (hx : x < 256 ^ n) :
    fieldAt (headed byte0 byte1 seq payload ++ tail) i n = x := by
  rw [headed_field byte0 byte1 seq tail h hi (leBytes_length n x), ofLeBytes_leBytes_of_lt _ _ hx]

/-- The number that the payload begins with. -/
theorem headed_firstNumber (byte0 byte1 : Byte) (seq : Seq) (tail : List Byte) {payload : List Byte} (n x : Nat)
    (post : List Byte) (h : payload = leBytes n x ++ post) (hx : x < 256 ^ n) :
    fieldAt (headed byte0 byte1 seq payload ++ tail) 8 n = x :=
  headed_number byte0 byte1 seq tail [] post h rfl hx

/-! ### The receiver's verdict -/

theorem requiredLength_lt (code : BitVec 4) (flag0 : Bool) : requiredLength code flag0 < 65536 := by
  unfold requiredLength
  (repeat' split) <;> decide

/-- A header of a kind the role receives, with the length the kind requires and as many bytes: the verdict is that of
the CRC, and then that of the fields (R131, R132). -/
theorem judgeBytes_of_header {role : Role} {bytes rest : List Byte} {byte0 byte1 : Byte} {length : Nat}
    (hbytes : bytes = byte0 :: byte1 :: rest) (hkind : kindAccepted role (headerCode byte0) = true)
    (hlength : length = requiredLength (headerCode byte0) (byte1.getLsbD 0)) (hfield : fieldAt bytes 6 2 = length)
    (hsize : bytes.length = 12 + length) :
    judgeBytes role bytes =
      if fieldAt bytes (8 + length) 4 ≠ (crc32 (bytes.take (8 + length))).toNat then .crcMismatch
      else (decodeBody bytes (headerCode byte0) byte1).elim .fieldRange
        fun body => .valid ⟨headerSession byte0, BitVec.ofNat 32 (fieldAt bytes 2 4), body⟩ := by
  subst hbytes
  simp only [judgeBytes, hkind, Bool.not_true, Bool.false_eq_true, if_false, hfield, hsize, ← hlength, ne_eq,
    not_true_eq_false]
  congr 1
  cases decodeBody (byte0 :: byte1 :: rest) (headerCode byte0) byte1 <;> rfl

/-- The verdict on a header and its payload, by the CRC and by the fields (R131, R132). -/
theorem judgeBytes_headed {role : Role} {byte0 byte1 : Byte} {payload : List Byte} (seq : Seq) (crc : Word)
    (hkind : kindAccepted role (headerCode byte0) = true)
    (hlength : payload.length = requiredLength (headerCode byte0) (byte1.getLsbD 0)) :
    judgeBytes role (headed byte0 byte1 seq payload ++ leBytes 4 crc.toNat) =
      if crc ≠ crc32 (headed byte0 byte1 seq payload) then .crcMismatch
      else (decodeBody (headed byte0 byte1 seq payload ++ leBytes 4 crc.toNat) (headerCode byte0) byte1).elim .fieldRange
        fun body => .valid ⟨headerSession byte0, seq, body⟩ := by
  have hsmall : payload.length < 65536 := hlength ▸ requiredLength_lt _ _
  have htake : (headed byte0 byte1 seq payload ++ leBytes 4 crc.toNat).take (8 + payload.length) =
      headed byte0 byte1 seq payload := by
    rw [← headed_length byte0 byte1 seq payload, List.take_left]
  have hcrc : fieldAt (headed byte0 byte1 seq payload ++ leBytes 4 crc.toNat) (8 + payload.length) 4 = crc.toNat := by
    have hlt : crc.toNat < 256 ^ 4 := crc.isLt
    rw [← List.append_nil (leBytes 4 _), fieldAt_append _ (leBytes 4 _) _ _ 4 (headed_length ..) (by simp),
      ofLeBytes_leBytes_of_lt _ _ hlt]
  have hne : crc.toNat ≠ (crc32 (headed byte0 byte1 seq payload)).toNat ↔ crc ≠ crc32 (headed byte0 byte1 seq payload) :=
    not_congr BitVec.toNat_inj
  rw [judgeBytes_of_header (by rfl) hkind hlength (headed_payloadLength _ _ _ _ _ hsmall) (by simp; omega), hcrc, htake,
    headed_seq, BitVec.ofNat_toNat, BitVec.setWidth_eq]
  simp only [hne]

/-! ### The fields of a body -/

theorem payload_length (b : FrameBody) : b.payload.length = requiredLength b.code (b.flags.getLsbD 0) := by
  cases b with
  | block number lines =>
    have hlines : (lines.toList.flatMap fun l => leBytes 16 l.toNat).length = 1024 := by
      simp [List.length_flatMap]
    rw [FrameBody.payload, List.length_append, hlines, leBytes_length]
    simp [FrameBody.code, FrameBody.flags, requiredLength]
  | _ => simp [FrameBody.payload, FrameBody.code, FrameBody.flags, requiredLength]

/-- A line address is in the range that the receiver takes (R131, condition 5). -/
theorem lineAddress_inRange {line : Addr} (h : line &&& 15#26 = 0#26) :
    line.toNat % 16 = 0 ∧ line.toNat ≤ 0x3FFFFF0 := by
  have hmod : line.toNat % 16 = 0 := by
    have hand := congrArg BitVec.toNat h
    rwa [BitVec.toNat_and, show (15#26).toNat = 2 ^ 4 - 1 from rfl, Nat.and_two_pow_sub_one_eq_mod] at hand
  have := line.isLt
  omega

/-- Line `i` of a BLOCK payload stands at byte 12 + 16i of the frame (spec/07, 7.2). -/
theorem headed_blockLines (byte0 byte1 : Byte) (seq : Seq) (number : Block) (lines : Vector Line 64)
    (tail : List Byte) :
    blockLines (headed byte0 byte1 seq (FrameBody.block number lines).payload ++ tail) = lines := by
  refine Vector.ext fun i hi => ?_
  have hline : lines.toList[i]? = some lines[i] := by simp [hi]
  have hdrop := drop_flatMap_eq (g := fun l : Line => leBytes 16 l.toNat) (n := 16) (by simp) hline
  have hlen : (lines.toList.flatMap fun l => leBytes 16 l.toNat).length = 1024 := by simp [List.length_flatMap]
  have hsplit := List.take_append_drop (16 * i) (lines.toList.flatMap fun l => leBytes 16 l.toNat)
  rw [hdrop] at hsplit
  have hpayload : (FrameBody.block number lines).payload =
      (leBytes 4 number.toNat ++ (lines.toList.flatMap fun l => leBytes 16 l.toNat).take (16 * i)) ++
        (leBytes 16 lines[i].toNat ++ (lines.toList.drop (i + 1)).flatMap fun l => leBytes 16 l.toNat) := by
    rw [List.append_assoc, hsplit]
    rfl
  have hlt : lines[i].toNat < 256 ^ 16 := lines[i].isLt
  simp only [blockLines, Vector.getElem_ofFn]
  rw [headed_number byte0 byte1 seq tail _ _ hpayload (by simp [hlen]; omega) hlt, BitVec.ofNat_toNat,
    BitVec.setWidth_eq]

/-- The receiver reads each body back from its payload and flags (spec/07, 7.2). -/
theorem decodeBody_headed {f : Frame} (hwf : f.wf = true) (byte0 byte1 : Byte) (tail : List Byte) :
    decodeBody (headed byte0 byte1 f.seq f.body.payload ++ tail) f.body.code f.body.flags = some f.body := by
  obtain ⟨session, seq, body⟩ := f
  cases body with
  | write line mask data =>
    obtain ⟨haligned, hrange⟩ := lineAddress_inRange (line := line) (by simpa [Frame.wf] using hwf)
    have hpayload : (FrameBody.write line mask data).payload =
        leBytes 4 line.toNat ++ (leBytes 2 mask.toNat ++ leBytes 16 data.toNat) := List.append_assoc ..
    have hline := headed_firstNumber byte0 byte1 seq tail 4 line.toNat _ hpayload (lt_of_lt_of_le line.isLt (by decide))
    have hmask := headed_number byte0 byte1 seq tail (i := 12) (n := 2) _ _ hpayload (by simp) mask.isLt
    have hdata := headed_number byte0 byte1 seq tail (i := 14) (n := 16) (x := data.toNat)
      (payload := (FrameBody.write line mask data).payload)
      (leBytes 4 line.toNat ++ leBytes 2 mask.toNat) [] (by rw [hpayload]; simp) (by simp) data.isLt
    simp [decodeBody, FrameBody.code, hline, hmask, hdata, haligned, hrange]
  | block number lines =>
    have hrange : number.toNat ≤ 65535 := by have := number.isLt; omega
    have hnumber := headed_firstNumber byte0 byte1 seq tail (payload := (FrameBody.block number lines).payload) 4
      number.toNat _ rfl (lt_of_lt_of_le number.isLt (by decide))
    simp [decodeBody, FrameBody.code, FrameBody.flags, hnumber, hrange, headed_blockLines]
  | poisoned number =>
    have hrange : number.toNat ≤ 65535 := by have := number.isLt; omega
    have hnumber := headed_firstNumber byte0 byte1 seq tail (payload := (FrameBody.poisoned number).payload) 4
      number.toNat [] (List.append_nil _).symm (lt_of_lt_of_le number.isLt (by decide))
    simp [decodeBody, FrameBody.code, FrameBody.flags, hnumber, hrange]
  | mark number consistent drain =>
    have hnumber := headed_firstNumber byte0 byte1 seq tail
      (payload := (FrameBody.mark number consistent drain).payload) 2 number.toNat [] (List.append_nil _).symm number.isLt
    cases consistent <;> cases drain <;> simp [decodeBody, FrameBody.code, FrameBody.flags, hnumber]
  | helloAck flag => cases flag <;> simp [decodeBody, FrameBody.code, FrameBody.flags]
  | ack flag => cases flag <;> simp [decodeBody, FrameBody.code, FrameBody.flags]
  | nak flag => cases flag <;> simp [decodeBody, FrameBody.code, FrameBody.flags]
  | hello => rfl
  | probe => rfl

/-! ### The frames of the layout -/

/-- The verdict on the bytes of a frame that end in some CRC (R123, R131, R132). -/
theorem judgeBytes_covered {role : Role} {f : Frame} (hkind : kindAccepted role f.body.code = true) (hwf : f.wf = true)
    (crc : Word) : judgeBytes role (f.covered ++ leBytes 4 crc.toNat) =
      if crc ≠ crc32 f.covered then .crcMismatch else .valid f := by
  rw [covered_eq_headed, judgeBytes_headed f.seq crc (by rwa [headerCode_append])
    (by rw [headerCode_append]; exact payload_length f.body), headerCode_append, headerSession_append,
    decodeBody_headed hwf]
  rfl

/-- The receiver reads a frame back from its bytes (R122, R123, R131, R132). -/
theorem judgeBytes_bytes {role : Role} {f : Frame} (hkind : kindAccepted role f.body.code = true) (hwf : f.wf = true) :
    judgeBytes role f.bytes = .valid f := by
  rw [Frame.bytes, judgeBytes_covered hkind hwf, if_neg (not_not.mpr rfl)]

end Sys2Proof.Machine
end

section
/-! Characters and levels of the line (R119, R121, R126 to R128), and the frames that the line carries. -/

namespace Sys2Proof.Machine

theorem characterLevels_data (b : Byte) {k : Nat} (hk : k < 8) : (characterLevels b)[1 + k]? = some (b.getLsbD k) := by
  interval_cases k <;> rfl

/-- The eight data bits of a character spell its byte (R119). -/
theorem byteOfLevels_data (b : Byte) : byteOfLevels (((characterLevels b).drop 1).take 8) = b := by
  revert b
  decide

theorem sampledCharacter_levels (b : Byte) : sampledCharacter (characterLevels b) = some b := by
  rw [sampledCharacter, byteOfLevels_data]
  rfl

/-- A stop bit at space is no character (R119, R131). -/
theorem sampledCharacter_space {levels : List Level} (h : levels[9]? = some false) : sampledCharacter levels = none := by
  simp [sampledCharacter, List.getD_eq_getElem?_getD, h]

/-- The character of byte `i` stands at bit time 10i of the frame (R121). -/
theorem level_sending {f : Frame} {i k : Nat} {b : Byte} (hb : f.bytes[i]? = some b) (hk : k < 10) :
    (TxLine.sending f).level (10 * i + k) = (characterLevels b)[k]? := by
  have hlength : (characterLevels b).length = 10 := rfl
  have hlevels : (lineLevels f.bytes)[10 * i + k]? = (characterLevels b)[k]? := by
    rw [← List.getElem?_drop, lineLevels, drop_flatMap_eq (n := 10) (fun _ => rfl) hb, List.getElem?_append_left (by omega)]
  have hlevel := List.getElem?_eq_getElem (hk.trans_eq hlength.symm)
  rw [TxLine.level, List.getD_eq_getElem?_getD, hlevels, hlevel, Option.getD_some]

/-- Behind a frame's characters the line is at mark (R121, R126). -/
theorem level_sending_behind {f : Frame} {k : Nat} (hk : 10 * f.bytes.length ≤ k) :
    (TxLine.sending f).level k = some true := by
  have hlength : (lineLevels f.bytes).length = 10 * f.bytes.length := by
    simp [lineLevels, List.length_flatMap, characterLevels, Nat.mul_comm]
  rw [TxLine.level, List.getD_eq_getElem?_getD, List.getElem?_eq_none (by omega), Option.getD_none]

/-- Settles O23: the checks of a frame's own bytes read its fields back, and the line carries their characters. -/
theorem frameBytesReadBackWhole : Obligations.FrameBytesReadBackWhole := by
  unfold Obligations.FrameBytesReadBackWhole
  refine ⟨fun _ _ hkind hwf => judgeBytes_bytes hkind hwf,
    fun b => ⟨rfl, rfl, fun _ hk => characterLevels_data b hk, rfl, sampledCharacter_levels b⟩,
    fun _ h => sampledCharacter_space h, fun _ _ _ _ hb hk => level_sending hb hk, fun _ _ hk => level_sending_behind hk,
    fun _ => ⟨rfl, rfl, rfl⟩, fun _ hk => atRest_level rfl hk, fun s k hs hoff hk => ?_⟩
  obtain ⟨-, -, -, hrest, -⟩ := ((linkOk_iff s).mp hs).off hoff
  exact atRest_level hrest hk

end Sys2Proof.Machine
end

section
/-! The shifter: what it takes at a frame boundary, and how it ends a frame and a break (R126 to R128, R143, R154). -/

namespace Sys2Proof.Machine

theorem unlessPorst_deasserted (f : State → State) {s : State} (h : s.porst = false) : unlessPorst f s = f s :=
  if_neg (by simp [h])

/-! ### The frame boundary -/

theorem atBoundary_iff (s : State) : s.atBoundary = true ↔ s.link.state ≠ .off ∧ s.tx.breakPending = false ∧
    (s.tx.line = .idle ∨ s.tx.line = .gap ∨ s.tx.line = .finishing) := by
  unfold State.atBoundary
  cases s.tx.line <;> simp

/-- No frame begins in OFF, before a pending break, or in a break (R126, R127, R128). -/
theorem exec_frameBoundary_closed {s : State} (hp : s.porst = false)
    (h : s.tx.breakPending = true ∨ s.tx.line = .space ∨ s.link.state = .off) :
    exec .frameBoundary s = .next s := by
  have hclosed : ¬ s.atBoundary = true := by
    rw [atBoundary_iff]
    rintro ⟨hopen, hpending, hline⟩
    rcases h with h | h | h <;> simp_all
  have hstep : exec .frameBoundary s = .next (unlessPorst frameBoundary s) := rfl
  rw [hstep, unlessPorst_deasserted _ hp, frameBoundary, if_neg hclosed]

theorem exec_frameBoundary_open {s : State} (hp : s.porst = false) (h : s.atBoundary = true) :
    exec .frameBoundary s = .next (boundaryTake s) := by
  have hstep : exec .frameBoundary s = .next (unlessPorst frameBoundary s) := rfl
  rw [hstep, unlessPorst_deasserted _ hp, frameBoundary, if_pos h]

/-- In UP the origin's keepalive timer is stopped while a frame is sent (R143). -/
theorem stopKeepaliveInUp_eq (s : State) : stopKeepaliveInUp s = { s with
    link.helloTimer := if s.role = .origin ∧ s.link.state = .up then none else s.link.helloTimer } := by
  unfold stopKeepaliveInUp
  split <;> rfl

/-- The control slot goes first (R126). -/
theorem boundaryTake_slot {s : State} {f : Frame} (h : s.tx.slot = some f) : boundaryTake s = { s with
    tx.slot := none, tx.line := .sending f
    link.helloTimer := if s.role = .origin ∧ s.link.state = .up then none else s.link.helloTimer } := by
  simp [boundaryTake, h, stopKeepaliveInUp_eq]

/-- The data holding buffer goes when the control slot is empty (R126). -/
theorem boundaryTake_buffer {s : State} {f : Frame} (hslot : s.tx.slot = none) (h : s.tx.buffer = some f) :
    boundaryTake s = { s with
      tx.buffer := none, tx.line := .sending f
      link.helloTimer := if s.role = .origin ∧ s.link.state = .up then none else s.link.helloTimer } := by
  simp [boundaryTake, hslot, h, stopKeepaliveInUp_eq]

theorem boundaryTake_none {s : State} (hslot : s.tx.slot = none) (h : s.tx.buffer = none) :
    boundaryTake s = { s with tx.line := .idle } := by
  simp [boundaryTake, hslot, h]

/-! ### The end of a frame, and a break -/

/-- At the end of a frame the origin's timers in UP are started: the keepalive timer, and after a data frame with
entries in flight the ack timer (R143, R154). -/
theorem exec_frameEnd_sending {s : State} {f : Frame} (hp : s.porst = false) (h : s.tx.line = .sending f) :
    exec .frameEnd s = .next { s with
      tx.line := .gap
      link.helloTimer := if s.role = .origin ∧ s.link.state = .up then some s.cfg.keepalive.toNat else s.link.helloTimer
      link.ackTimer :=
        if s.role = .origin ∧ s.link.state = .up ∧ f.body.isData = true ∧ 0 < s.journal.sendPoint
        then some s.cfg.ackTimeout.toNat else s.link.ackTimer } := by
  have hstep : exec .frameEnd s = .next (unlessPorst frameEnd s) := rfl
  have hend : frameEnd s = endOfFrameReport f { s with tx.line := .gap } := by
    unfold frameEnd
    rw [h]
  rw [hstep, unlessPorst_deasserted _ hp, hend]
  by_cases hup : s.role = .origin ∧ s.link.state = .up
  · by_cases hflight : 0 < s.journal.sendPoint <;> simp [endOfFrameReport, hup, Journal.inFlight, hflight]
  · have hnot : ¬ (s.role = .origin ∧ s.link.state = .up ∧ f.body.isData = true ∧ 0 < s.journal.sendPoint) :=
      fun ⟨hrole, hlink, _⟩ => hup ⟨hrole, hlink⟩
    simp only [endOfFrameReport, if_neg hup, if_neg hnot]

/-- A pending break begins where no frame is in progress (R127). -/
theorem exec_breakStart_pending {s : State} (hp : s.porst = false) (hpending : s.tx.breakPending = true)
    (hline : s.tx.line = .idle ∨ s.tx.line = .gap ∨ s.tx.line = .finishing) :
    exec .breakStart s = .next { s with tx.line := .space, tx.breakPending := false } := by
  have hstep : exec .breakStart s = .next (unlessPorst breakStart s) := rfl
  rw [hstep, unlessPorst_deasserted _ hp]
  rcases hline with h | h | h <;> simp [breakStart, hpending, h]

theorem exec_breakEnd_space {s : State} (hp : s.porst = false) (h : s.tx.line = .space) :
    exec .breakEnd s = .next { s with tx.line := .gap } := by
  have hstep : exec .breakEnd s = .next (unlessPorst breakEnd s) := rfl
  rw [hstep, unlessPorst_deasserted _ hp, breakEnd, h]

/-- Settles O21: at a boundary the control slot goes before the buffer, and a break before both. -/
theorem shifterTakesControlFrameFirstOrBreak : Obligations.ShifterTakesControlFrameFirstOrBreak := by
  unfold Obligations.ShifterTakesControlFrameFirstOrBreak
  refine ⟨fun s hp => ⟨fun hopen hpending hline => ?_, fun _ h => exec_frameEnd_sending hp h⟩,
    fun s hp => ⟨exec_breakStart_pending hp, exec_breakEnd_space hp, exec_frameBoundary_closed hp⟩⟩
  rw [exec_frameBoundary_open hp ((atBoundary_iff s).mpr ⟨hopen, hpending, hline⟩)]
  exact ⟨fun _ h => congrArg _ (boundaryTake_slot h), fun _ hslot h => congrArg _ (boundaryTake_buffer hslot h),
    fun hslot h => congrArg _ (boundaryTake_none hslot h)⟩

end Sys2Proof.Machine
end

section
/-! The apply engine takes the frame that is next in line (R168 to R170). -/

namespace Sys2Proof.Machine

/-- An idle engine judges the frame of the first slot (R168). -/
theorem exec_applyTakeFrame_first {s : State} {f : Frame} {raw : List Byte} {rest : List Slot} (hp : s.porst = false)
    (hrole : s.role = .replica) (hidle : s.apply.phase = .idle) (hslots : s.rx.slots = ⟨f, raw⟩ :: rest) :
    exec .applyTakeFrame s = .next (judgeFrame f s) := by
  have hstep : exec .applyTakeFrame s = .next (unlessPorst applyTakeFrame s) := rfl
  rw [hstep, unlessPorst_deasserted _ hp, applyTakeFrame, if_pos ⟨hrole, hidle⟩, hslots]

/-- A frame of the session that carries the expected seq is applied, unless it is a PROBE (R168). -/
theorem judgeFrame_expected {s : State} {f : Frame} (hsession : f.session = s.link.session) (hopen : s.link.session ≠ 0)
    (hseq : f.seq = s.apply.expected) (hprobe : f.body ≠ .probe) : judgeFrame f s = applyFrame f s := by
  have hcurrent : ¬ s.isStale f = true := by
    rw [State.isStale, hsession, bne_self_eq_false, Bool.false_or, beq_iff_eq]
    exact hopen
  rw [judgeFrame, if_neg hcurrent, if_neg hprobe, if_pos hseq]

theorem applyFrame_write {f : Frame} {line : Addr} {mask : Mask} {data : Line} (s : State)
    (h : f.body = .write line mask data) : applyFrame f s = { s with
      apply := { s.apply with phase := .writing, nextLine := 0 }
      mem := s.memAfterEngine ⟨.lineWrite, line, mask, data, .apply f.seq 0⟩ } := by
  have hport := requestEngine_eq s ⟨.lineWrite, line, mask, data, .apply f.seq 0⟩
  simp only [applyFrame, h, presentWrite, enterWriting, hport]

/-- A BLOCK begins with its first line, and clears the coherent flag (R170). -/
theorem applyFrame_block {f : Frame} {number : Block} {lines : Vector Line 64} (s : State)
    (h : f.body = .block number lines) : applyFrame f s = { s with
      apply := { s.apply with phase := .writing, nextLine := 0, coherent := false }
      mem := s.memAfterEngine ⟨.lineWrite, BitVec.ofNat 26 (number.toNat * 1024), 0xFFFF, lines[0], .apply f.seq 0⟩ } := by
  have hfirst : BitVec.ofNat 26 (number.toNat * 1024 + (0 : Fin 64).val * 16) = BitVec.ofNat 26 (number.toNat * 1024) := by
    simp
  have hport := requestEngine_eq s
    ⟨.lineWrite, BitVec.ofNat 26 (number.toNat * 1024), 0xFFFF, lines[0], .apply f.seq 0⟩
  simp only [applyFrame, h, presentBlockLine, presentWrite, enterWriting, hfirst]
  exact congrArg (fun m => { s with
    apply := { s.apply with phase := .writing, nextLine := 0, coherent := false }, mem := m }) hport

/-- Settles O34: the engine takes the frame and presents its first line. -/
theorem applyBeginsWithFirstLineWrite : Obligations.ApplyBeginsWithFirstLineWrite := by
  unfold Obligations.ApplyBeginsWithFirstLineWrite
  intro f raw rest s hp hrole hidle hslots hsession hopen hseq
  refine ⟨fun line mask data hbody => ?_, fun number lines hbody => ?_⟩
  · rw [exec_applyTakeFrame_first hp hrole hidle hslots, judgeFrame_expected hsession hopen hseq (by simp [hbody]),
      applyFrame_write s hbody]
  · rw [exec_applyTakeFrame_first hp hrole hidle hslots, judgeFrame_expected hsession hopen hseq (by simp [hbody]),
      applyFrame_block s hbody]

end Sys2Proof.Machine
end

section
/-! LINK_RESET and the link enable outside UP (R137, R141, R157, R160). -/

namespace Sys2Proof.Machine

/-! ### LINK_RESET -/

theorem enterDown_eq (s : State) : enterDown s = { s with
    link := { s.link with
      state := if s.role = .origin then .down else .connecting
      helloTimer := if s.role = .origin then some s.cfg.keepalive.toNat else s.link.helloTimer } } := by
  cases hrole : s.role <;> simp [enterDown, hrole, State.keepalive]

/-- A break is requested: the transmitter is emptied, and a frame on the line is cut (R127, R128). -/
theorem requestBreak_eq {s : State} (h : s.tx.line ≠ .space) : requestBreak s = { s with
    tx := ⟨none, none, (match s.tx.line with
      | .sending _ => .finishing
      | other => other), true⟩ } := by
  cases hline : s.tx.line <;> simp_all [requestBreak, emptyTransmitter]

/-- LINK_RESET in CONNECTING: nothing was up, and a break is sent all the same (R157). -/
theorem resetLink_connecting {s : State} (h : s.link.state = .connecting) (hline : s.tx.line ≠ .space) :
    resetLink s = { s with
      counters := s.counted .linkDowns, causes := s.raised .linkDown
      tx := ⟨none, none, (match s.tx.line with
        | .sending _ => .finishing
        | other => other), true⟩
      link := { s.link with
        state := if s.role = .origin then .down else .connecting
        helloTimer := if s.role = .origin then some s.cfg.keepalive.toNat else none
        silenceTimer := none, ackTimer := none, timeouts := 0 } } := by
  have hup : ¬ s.link.state = .up := by simp [h]
  have hbreak := requestBreak_eq (s := stopSession (countLinkDown s)) (by simpa [stopSession] using hline)
  rw [resetLink, if_neg hup, hbreak, enterDown_eq]
  rfl

theorem exec_linkReset_connecting {s : State} (hp : s.porst = false) (hready : s.portReady)
    (h : s.link.state = .connecting) :
    exec .linkReset s = .next (respond .accepted (resetLink (selectPort (deselectPort s)))) :=
  exec_served hp hready (acceptIf_accepts _ _ (by simp [h]))

theorem exec_linkReset_refused {s : State} (hp : s.porst = false) (hready : s.portReady)
    (h : s.link.state = .off ∨ s.link.state = .down) :
    exec .linkReset s = .next { s with sp := s.answered .refused } :=
  exec_refused (ok := fun s => s.link.state == .up || s.link.state == .connecting) hp hready
    (by rcases h with h | h <;> simp [h])

/-! ### The link enable -/

theorem exec_linkEnable_set_off {s : State} (hp : s.porst = false) (hready : s.portReady) (h : s.link.state = .off) :
    exec (.controlLinkEnable true) s = .next { s with
      sp := s.answered .accepted, control.linkEnable := true
      link := { s.link with
        state := if s.role = .origin then .down else .connecting
        helloTimer := if s.role = .origin then some s.cfg.keepalive.toNat else s.link.helloTimer } } := by
  refine exec_served hp hready ?_
  have hset : setEnable true (selectPort (deselectPort s)) =
      enterDown { selectPort (deselectPort s) with control.linkEnable := true } :=
    if_pos h
  rw [hset, enterDown_eq]
  rfl

theorem exec_linkEnable_set_open {s : State} (hp : s.porst = false) (hready : s.portReady) (h : s.link.state ≠ .off) :
    exec (.controlLinkEnable true) s = .next { s with sp := s.answered .accepted, control.linkEnable := true } := by
  refine exec_served hp hready ?_
  have hset : setEnable true (selectPort (deselectPort s)) =
      { selectPort (deselectPort s) with control.linkEnable := true } := if_neg h
  rw [hset]
  rfl

theorem clearLinkEnable_off {s : State} (h : s.link.state = .off) :
    clearLinkEnable s = { s with control.linkEnable := false } := by
  simp [clearLinkEnable, h]

theorem clearLinkEnable_between {s : State} (h : s.link.state = .down ∨ s.link.state = .connecting) :
    clearLinkEnable s = enterOff { s with control.linkEnable := false } := by
  rcases h with h | h <;> simp [clearLinkEnable, h]

theorem exec_linkEnable_clear_off {s : State} (hp : s.porst = false) (hready : s.portReady) (h : s.link.state = .off) :
    exec (.controlLinkEnable false) s = .next { s with sp := s.answered .accepted, control.linkEnable := false } := by
  refine exec_served hp hready ?_
  have hclear : setEnable false (selectPort (deselectPort s)) =
      { selectPort (deselectPort s) with control.linkEnable := false } := clearLinkEnable_off h
  rw [hclear]
  rfl

theorem exec_linkEnable_clear_between {s : State} (hp : s.porst = false) (hready : s.portReady)
    (h : s.link.state = .down ∨ s.link.state = .connecting) :
    exec (.controlLinkEnable false) s =
      .next (respond .accepted (enterOff { selectPort (deselectPort s) with control.linkEnable := false })) := by
  refine exec_served hp hready ?_
  have hclear : setEnable false (selectPort (deselectPort s)) =
      enterOff { selectPort (deselectPort s) with control.linkEnable := false } := clearLinkEnable_between h
  rw [hclear]

/-- In OFF no slot is occupied, unless a frame is in hand (R134, R137). -/
theorem enterOff_slots {s : State} (h : s.apply.phase = .idle) : (enterOff s).rx.slots = [] := by
  simp [enterOff, flushSlots, h]

theorem lineIntoOff_ne_sending (l : TxLine) (f : Frame) : lineIntoOff l ≠ .sending f := by
  cases l <;> simp [lineIntoOff]

/-- Settles O41: LINK_RESET by the link's state, then the link enable set and cleared. -/
theorem linkResetAndLinkEnableMoveTheLink : Obligations.LinkResetAndLinkEnableMoveTheLink := by
  unfold Obligations.LinkResetAndLinkEnableMoveTheLink
  refine ⟨fun s hp hready => ⟨fun h hline => ?_, exec_linkReset_refused hp hready⟩,
    fun s hp hready => ⟨exec_linkEnable_set_off hp hready, exec_linkEnable_set_open hp hready,
      exec_linkEnable_clear_off hp hready, fun h => ⟨_, exec_linkEnable_clear_between hp hready h, ?_⟩⟩⟩
  · rw [exec_linkReset_connecting hp hready h, resetLink_connecting (s := selectPort (deselectPort s)) h hline]
    rfl
  · obtain ⟨hphase, hrun⟩ := enterOff_rx { selectPort (deselectPort s) with control.linkEnable := false }
    refine ⟨?_, by simp, ?_, ?_, ?_, ?_, hphase, hrun, fun f => ?_, fun k hk => ?_, fun hidle => enterOff_slots hidle, ?_⟩
    case refine_6 => simpa [respond, enterOff_tx] using lineIntoOff_ne_sending s.tx.line f
    case refine_7 => simpa [respond, enterOff_tx] using atRest_level (lineIntoOff_atRest s.tx.line) hk
    all_goals simp [respond, enterOff_tx, enterOff_link_eq, State.answered]

end Sys2Proof.Machine
end

section
/-! Whole frames at the replica: a data frame and its slot (R133, R149), a HELLO and the session it opens (R134, R146,
R165, R176, R178). -/

namespace Sys2Proof.Machine

/-! ### A whole frame at an aligned receiver -/

/-- What the checks make of the bytes, for a receiver that is aligned (R131, R132). -/
theorem receiveBytes_aligned {s : State} (dispose : Frame → State → State) (bytes : List Byte) (ha : s.aligned)
    {t : State} (h : judgeBytes s.role bytes = .crcMismatch ∧ t = rxDiscard .rxCrc { s with rx.phase := .between } ∨
      judgeBytes s.role bytes = .fieldRange ∧ t = rxDiscard .rxFraming { s with rx.phase := .between } ∨
      ∃ f, judgeBytes s.role bytes = .valid f ∧ t = dispose f { s with rx.phase := .between }) :
    receiveBytes dispose bytes s = t := by
  rw [receiveBytes, if_pos (receiving_of_aligned ha)]
  rcases h with ⟨h, rfl⟩ | ⟨h, rfl⟩ | ⟨f, h, rfl⟩ <;> rw [h]

/-! ### Data frames and PROBEs -/

/-- A frame of the current session restarts the silence timer in UP (R149). -/
theorem noteValidFrame_eq (n : SessionNo) (s : State) :
    noteValidFrame n s = { s with link.silenceTimer := s.silenceAfter n } := by
  unfold noteValidFrame State.silenceAfter State.silence
  split <;> rfl

theorem placeFrame_free {f : Frame} {bytes : List Byte} {s : State} (h : s.rx.slots.length < 4) :
    placeFrame f bytes s = { s with
      rx.slots := s.rx.slots ++ [⟨f, bytes⟩], link.silenceTimer := s.silenceAfter f.session } := by
  simp [placeFrame, noteValidFrame_eq, Sys2Proof.Config.slotCount, h]

/-- With four slots occupied the frame is an overrun (R133). -/
theorem placeFrame_overrun {f : Frame} {bytes : List Byte} {s : State} (h : 4 ≤ s.rx.slots.length) :
    placeFrame f bytes s = { s with
      link.silenceTimer := s.silenceAfter f.session
      counters := s.counted .rxOverrun, causes := s.raised .rxError } := by
  have hfull : ¬ s.rx.slots.length < 4 := by omega
  simp only [placeFrame, noteValidFrame_eq, Sys2Proof.Config.slotCount, if_neg hfull]
  rfl

theorem disposeData_eq_placeFrame {f : Frame} {bytes : List Byte} {s : State} (hrole : s.role = .replica)
    (hbody : f.body.isData = true ∨ f.body = .probe) : disposeData bytes f s = placeFrame f bytes s := by
  obtain ⟨session, seq, body⟩ := f
  cases body <;> simp_all [disposeData, FrameBody.isData]

theorem kindAccepted_of_slotted {b : FrameBody} (h : b.isData = true ∨ b = .probe) :
    kindAccepted .replica b.code = true := by
  cases b <;> simp_all [FrameBody.isData, FrameBody.code, kindAccepted]

theorem exec_dataFrameReceived_valid {s : State} {f : Frame} {bytes : List Byte} (hp : s.porst = false)
    (ha : s.aligned) (hrole : s.role = .replica) (hjudge : judgeBytes .replica bytes = .valid f)
    (hbody : f.body.isData = true ∨ f.body = .probe) :
    exec (.dataFrameReceived bytes) s = .next (placeFrame f bytes { s with rx.phase := .between }) := by
  have hstep : exec (.dataFrameReceived bytes) s =
      .next (unlessPorst (receiveBytes (disposeData bytes) bytes) s) := rfl
  rw [hstep, unlessPorst_deasserted _ hp,
    receiveBytes_aligned _ bytes ha (.inr (.inr ⟨f, by rwa [hrole], rfl⟩)),
    disposeData_eq_placeFrame (s := { s with rx.phase := .between }) hrole hbody]

/-- Settles O24: the frame takes a slot or is an overrun. -/
theorem dataFrameTakesSlotOrOverruns : Obligations.DataFrameTakesSlotOrOverruns := by
  unfold Obligations.DataFrameTakesSlotOrOverruns
  intro f bytes s hp ha hrole hbytes hbody
  have hjudge : judgeBytes .replica bytes = .valid f := by
    rcases hbytes with ⟨hwf, rfl⟩ | hjudge
    · exact judgeBytes_bytes (kindAccepted_of_slotted hbody) hwf
    · exact hjudge
  rw [exec_dataFrameReceived_valid hp ha hrole hjudge hbody]
  exact ⟨fun hfree => congrArg _ (placeFrame_free (s := { s with rx.phase := .between }) hfree),
    fun hfull => congrArg _ (placeFrame_overrun (s := { s with rx.phase := .between }) hfull)⟩

/-! ### The frame in hand when a session ends -/

theorem dropFrame_idle {s : State} (h : s.apply.phase = .idle) :
    flushSlots (abandonFrame s) = { s with rx.slots := [] } := by
  simp [abandonFrame, flushSlots, h]

/-- A write that waits for its grant is withdrawn (R178). -/
theorem dropFrame_waiting {s : State} (h : s.apply.phase = .writing) (hwaits : s.mem.engineRequest.isSome = true) :
    flushSlots (abandonFrame s) = { s with rx.slots := [], apply.phase := .idle, mem.engineRequest := none } := by
  simp [abandonFrame, flushSlots, releaseSlot, h, hwaits, MemoryPort.withdrawEngine]

/-- A write at memory goes on in ABANDONING, with its slot kept (R134, R178). -/
theorem dropFrame_atMemory {s : State}
    (h : s.apply.phase = .writing ∧ s.mem.engineRequest = none ∨ s.apply.phase = .abandoning) :
    flushSlots (abandonFrame s) = { s with rx.slots := s.rx.slots.take 1, apply.phase := .abandoning } := by
  rcases h with ⟨h, hnone⟩ | h
  · simp [abandonFrame, flushSlots, h, hnone]
  · have hphase : { s with apply.phase := .abandoning } = s := by rw [← h]
    have hkept : abandonFrame s = s := by simp [abandonFrame, h]
    rw [hkept, flushSlots, h, ← hphase]

/-! ### HELLO -/

/-- An answered HELLO behind the frame in hand: the acknowledgement state, the HELLO_ACK, the silence timer, and UP
(R146, R165, R176). -/
def openSession (f : Frame) (s : State) : State :=
  let s := offerControl f.seq (.helloAck s.apply.fresh) (resetAckState s)
  let s := { s with link.silenceTimer := s.silence }
  if s.link.state = .connecting then replicaReachedUp (raise .linkUp { s with link.state := .up }) else s

theorem answerHello_eq (f : Frame) (s : State) : answerHello f s =
    openSession f (flushSlots (abandonFrame { s with link.session := f.session, apply.expected := f.seq })) := rfl

theorem offeredSlot_helloAck (slot : Option Frame) {f : Frame} {fresh : Bool} (h : f.body = .helloAck fresh) :
    offeredSlot slot f = some f := by
  unfold offeredSlot
  split <;> simp_all

theorem replicaReachedUp_active {s : State} (h : s.mirror.replica = .listening ∨ s.mirror.replica = .applying) :
    replicaReachedUp s = { s with mirror.replica := .applying } := by
  rcases h with h | h
  · simp [replicaReachedUp, h]
  · have hreplica : { s with mirror.replica := .applying } = s := by rw [← h]
    rw [hreplica]
    simp [replicaReachedUp, h]

theorem openSession_eq (f : Frame) {s : State} (hlink : s.link.state = .connecting ∨ s.link.state = .up)
    (hreplica : s.mirror.replica = .listening ∨ s.mirror.replica = .applying) : openSession f s = { s with
      link := { s.link with state := .up, silenceTimer := some s.cfg.silence.toNat }
      apply := { s.apply with ackCount := 0, lastNaked := none }
      tx.slot := some ⟨s.link.session, f.seq, .helloAck s.apply.fresh⟩
      mirror.replica := if s.link.state = .connecting then .applying else s.mirror.replica
      causes := if s.link.state = .connecting then s.raised .linkUp else s.causes } := by
  have hoffer : offerControl f.seq (.helloAck s.apply.fresh) (resetAckState s) = { resetAckState s with
      tx.slot := some ⟨s.link.session, f.seq, .helloAck s.apply.fresh⟩ } := by
    rw [offerControl, if_neg (by rcases hlink with h | h <;> simp [resetAckState, h]), offeredSlot_helloAck _ rfl]
    rfl
  rw [openSession, hoffer]
  rcases hlink with h | h
  · simp [resetAckState, State.silence, replicaReachedUp_active, hreplica, raise, State.raised, h]
  · simp [resetAckState, State.silence, h]

theorem exec_helloReceived {s : State} (n : SessionNo) (q : Seq) (hp : s.porst = false) (ha : s.aligned)
    (hrole : s.role = .replica) :
    exec (.helloReceived (Frame.mk n q .hello).bytes) s =
      .next (takeHello ⟨n, q, .hello⟩ { s with rx.phase := .between }) := by
  have hstep : exec (.helloReceived (Frame.mk n q .hello).bytes) s =
      .next (unlessPorst (receiveBytes disposeHello (Frame.mk n q .hello).bytes) s) := rfl
  have hjudge : judgeBytes s.role (Frame.mk n q .hello).bytes = .valid ⟨n, q, .hello⟩ := by
    rw [hrole]
    exact judgeBytes_bytes rfl rfl
  rw [hstep, unlessPorst_deasserted _ hp, receiveBytes_aligned _ _ ha (.inr (.inr ⟨_, hjudge, rfl⟩))]
  rfl

theorem answersHello_iff (s : State) : s.answersHello = true ↔
    (s.link.state = .connecting ∨ s.link.state = .up) ∧ s.mirror.replica ≠ .disabled := by
  simp [State.answersHello]

theorem takeHello_answered {f : Frame} {s : State} (h : s.answersHello = true) (hsession : f.session ≠ 0) :
    takeHello f s = answerHello f s := by
  rw [takeHello, if_pos h, if_neg hsession]

/-- The session opened over what is left of the frame in hand. -/
theorem exec_helloReceived_answered {s t u : State} (n : SessionNo) (q : Seq) (hp : s.porst = false) (ha : s.aligned)
    (hrole : s.role = .replica) (hn : n ≠ 0) (hlink : s.link.state = .connecting ∨ s.link.state = .up)
    (hreplica : s.mirror.replica = .listening ∨ s.mirror.replica = .applying)
    (hdrop : flushSlots (abandonFrame { s with rx.phase := .between, link.session := n, apply.expected := q }) = u)
    (hopen : openSession ⟨n, q, .hello⟩ u = t) : exec (.helloReceived (Frame.mk n q .hello).bytes) s = .next t := by
  have hactive : s.mirror.replica ≠ .disabled := by rcases hreplica with h | h <;> simp [h]
  have hanswers : State.answersHello { s with rx.phase := .between } = true := (answersHello_iff _).mpr ⟨hlink, hactive⟩
  rw [exec_helloReceived n q hp ha hrole, takeHello_answered (f := ⟨n, q, .hello⟩) hanswers hn, answerHello_eq, hdrop, hopen]

/-- A HELLO of session 0 where HELLOs are answered counts PROTOCOL (R146). -/
theorem takeHello_sessionZero {f : Frame} {s : State} (h : s.answersHello = true) (hsession : f.session = 0) :
    takeHello f s = bump .protocol s := by
  rw [takeHello, if_pos h, if_pos hsession]

theorem takeHello_unanswered {f : Frame} {s : State} (h : ¬ s.answersHello = true) (hsession : f.session ≠ 0) :
    takeHello f s = s := by
  rw [takeHello, if_neg h, if_neg hsession]

/-- Settles O25: an answered HELLO by the frame in hand, and the HELLOs that are not answered. -/
theorem helloOpensSessionOrIsDiscarded : Obligations.HelloOpensSessionOrIsDiscarded := by
  unfold Obligations.HelloOpensSessionOrIsDiscarded
  refine ⟨fun n q s hp ha hrole hn hreplica hidle => ⟨fun hlink => ?_, fun hlink => ?_⟩,
    fun n q s hp ha hrole hn hreplica hphase hlink => ⟨_, rfl, fun hwriting hwaits => ?_, fun hmemory => ?_⟩,
    fun n q s hp ha hrole => ⟨fun hn hactive hlink => ?_, fun hn hnot => ?_⟩⟩
  · refine (exec_helloReceived_answered n q hp ha hrole hn (.inl hlink) hreplica (dropFrame_idle hidle)
      (openSession_eq _ (.inl hlink) hreplica)).trans ?_
    simp [hlink, State.raised]
  · refine (exec_helloReceived_answered n q hp ha hrole hn (.inr hlink) hreplica (dropFrame_idle hidle)
      (openSession_eq _ (.inr hlink) hreplica)).trans ?_
    simp [hlink]
  · exact exec_helloReceived_answered n q hp ha hrole hn hlink hreplica (dropFrame_waiting hwriting hwaits)
      (openSession_eq _ hlink hreplica)
  · have hkept : s.apply.phase = .writing ∧ s.mem.engineRequest = none ∨ s.apply.phase = .abandoning := by
      rcases hmemory with h | h
      · exact .inr h
      · exact hphase.imp_left fun hwriting => ⟨hwriting, h⟩
    exact exec_helloReceived_answered n q hp ha hrole hn hlink hreplica (dropFrame_atMemory hkept)
      (openSession_eq _ hlink hreplica)
  · have hanswers : State.answersHello { s with rx.phase := .between } = true :=
      (answersHello_iff _).mpr ⟨hlink, hactive⟩
    rw [exec_helloReceived n q hp ha hrole, takeHello_sessionZero (f := ⟨n, q, .hello⟩) hanswers hn]
    rfl
  · have hclosed : ¬ State.answersHello { s with rx.phase := .between } = true := by
      rw [answersHello_iff]
      rintro ⟨hlink, hactive⟩
      rcases hnot with h | h <;> simp_all
    rw [exec_helloReceived n q hp ha hrole, takeHello_unanswered (f := ⟨n, q, .hello⟩) hclosed hn]

end Sys2Proof.Machine
end

section
/-! The replica's link leaves UP (R127, R128, R156, R158, R160, R166, R178): one loss whatever its cause, with the line
as the cause leaves it. -/

namespace Sys2Proof.Machine

/-! ### The line -/

/-- The transmitter leaves UP in the same way in both roles (R127, R128). -/
theorem linkOutOfUp_tx {dest : LeaveTo} (withBreak : Bool) (s : State) (hdest : dest ≠ .connecting) :
    (linkOutOfUp dest withBreak true s).tx = (linkLeavesUp dest withBreak s).tx := by
  have hclear : (transmitterLeavesUp withBreak (clearReplicaSession (stopSession (countLinkDown s)))).tx =
      (transmitterLeavesUp withBreak (stopSession (countLinkDown s))).tx := by
    cases hrole : s.role <;> cases withBreak <;> cases hline : s.tx.line <;>
      simp [clearReplicaSession, transmitterLeavesUp, requestBreak, emptyTransmitter, hrole, hline]
  cases dest with
  | connecting => exact absurd rfl hdest
  | down => simpa [linkOutOfUp, linkLeavesUp, enterAfterUp, enterDown_eq] using hclear
  | off => simpa [linkOutOfUp, linkLeavesUp, enterAfterUp, enterOff_tx] using congrArg (lineIntoOff ·.line) hclear

/-- A replica's transmitter stands as the link's own part left it. -/
theorem leaveUp_replica_tx {dest : LeaveTo} (withBreak : Bool) {s : State} (hrole : s.role = .replica)
    (hdest : dest ≠ .connecting) : (leaveUp dest withBreak true s).tx = (linkLeavesUp dest withBreak s).tx := by
  have hrole' : (linkOutOfUp dest withBreak true s).role = .replica := by simp [linkOutOfUp, hrole]
  rw [leaveUp_eq, reportLeftUp_tx, if_neg (by simp [hrole']), linkOutOfUp_tx withBreak s hdest]

/-! ### The replica's loss -/

/-- What a replica that was APPLYING has lost and kept when its link has left UP (R156, R160, R166, R178). -/
structure ReplicaLost (s t : State) : Prop where
  replica : t.mirror.replica = .listening
  session : t.link.session = 0
  silence : t.link.silenceTimer = none
  slot : t.tx.slot = none
  idle : s.apply.phase = .idle → t.rx.slots = [] ∧ t.apply = s.apply ∧ t.mem = s.mem
  waiting : s.apply.phase = .writing → s.mem.engineRequest.isSome = true → t.apply.phase = .idle ∧ t.rx.slots = [] ∧
    t.mem = { s.mem with engineRequest := none }
  atMemory : s.apply.phase = .writing → s.mem.engineRequest = none → t.apply.phase = .abandoning ∧ t.mem = s.mem ∧
    t.rx.slots = s.rx.slots.take 1
  coherent : t.apply.coherent = s.apply.coherent
  fresh : t.apply.fresh = s.apply.fresh
  fault : t.apply.fault = s.apply.fault
  expected : t.apply.expected = s.apply.expected
  linkDown : t.hasCause .linkDown = true
  linkDowns : t.counter .linkDowns = saturate (s.counter .linkDowns)
  sys : t.sys = s.sys

/-- A state that agrees with `s` in what the loss moves or keeps. -/
@[simp] abbrev SameReplica (s u : State) : Prop :=
  u.role = s.role ∧ u.mirror.replica = s.mirror.replica ∧ u.mem = s.mem ∧ u.apply = s.apply ∧
    u.rx.slots = s.rx.slots ∧ u.sys = s.sys ∧ u.counter .linkDowns = s.counter .linkDowns

theorem ReplicaLost.of_same {s t u : State} (hsame : SameReplica s u) (h : ReplicaLost u t) : ReplicaLost s t := by
  obtain ⟨-, -, hmem, happly, hslots, hsys, hcounter⟩ := hsame
  exact ⟨h.replica, h.session, h.silence, h.slot, by rw [← happly, ← hmem]; exact h.idle,
    by rw [← happly, ← hmem]; exact h.waiting, by rw [← happly, ← hmem, ← hslots]; exact h.atMemory,
    h.coherent.trans (by rw [happly]), h.fresh.trans (by rw [happly]), h.fault.trans (by rw [happly]),
    h.expected.trans (by rw [happly]), h.linkDown, h.linkDowns.trans (by rw [hcounter]), h.sys.trans hsys⟩

/-- A loss answered to the service port is the same loss. -/
theorem ReplicaLost.respond {s t : State} (r : Response) (h : ReplicaLost s t) : ReplicaLost s (respond r t) := { h with }

/-- Into OFF the slots are emptied but for that of a frame in hand (R134, R137). -/
theorem linkOutOfUp_slots (dest : LeaveTo) (withBreak counted : Bool) (s : State) :
    (linkOutOfUp dest withBreak counted s).rx.slots =
      if dest = .off then (flushSlots s).rx.slots else s.rx.slots := by
  cases dest with
  | down => cases counted <;> simp [linkOutOfUp, enterAfterUp]
  | connecting => cases hrole : s.role <;> cases counted <;> simp [linkOutOfUp, enterAfterUp, hrole]
  | off => cases hphase : s.apply.phase <;> cases counted <;> simp [linkOutOfUp, enterAfterUp, enterOff, flushSlots, hphase]

/-- The replica ends the frame in hand when it hears that the link left UP (R166, R178). -/
theorem leaveUp_replica_eq (dest : LeaveTo) (withBreak : Bool) {s : State} (hrole : s.role = .replica)
    (happlying : s.mirror.replica = .applying) :
    leaveUp dest withBreak true s =
      flushSlots (abandonFrame { linkOutOfUp dest withBreak true s with mirror.replica := .listening }) := by
  have hrole' : (linkOutOfUp dest withBreak true s).role = .replica := by simp [linkOutOfUp, hrole]
  have happlying' : (linkOutOfUp dest withBreak true s).mirror.replica = .applying := by simp [linkOutOfUp, happlying]
  rw [leaveUp_eq, reportLeftUp_replica hrole', replicaLeftUp, happlying']

theorem replicaLost_leaveUp {dest : LeaveTo} (withBreak : Bool) {s : State} (hrole : s.role = .replica)
    (happlying : s.mirror.replica = .applying) (hdest : dest ≠ .connecting) :
    ReplicaLost s (leaveUp dest withBreak true s) := by
  have hsession : (linkOutOfUp dest withBreak true s).link.session = 0 := by
    obtain ⟨-, hreplica⟩ := linkOutOfUp_link dest withBreak true s
    exact (hreplica hrole).1
  have hsilence := leaveUp_silence dest withBreak true s
  obtain ⟨hslot, -⟩ := linkLeavesUp_emptied s withBreak hdest
  rw [← leaveUp_replica_tx withBreak hrole hdest] at hslot
  have hkept : (linkOutOfUp dest withBreak true s).apply = s.apply ∧ (linkOutOfUp dest withBreak true s).mem = s.mem ∧
      (linkOutOfUp dest withBreak true s).sys = s.sys ∧
      (linkOutOfUp dest withBreak true s).counters = (countLinkDown s).counters ∧
      (linkOutOfUp dest withBreak true s).causes = (countLinkDown s).causes := by
    simp [linkOutOfUp]
  have hslots := linkOutOfUp_slots dest withBreak true s
  rw [leaveUp_replica_eq dest withBreak hrole happlying] at hsilence hslot ⊢
  generalize linkOutOfUp dest withBreak true s = u at *
  obtain ⟨happly, hmem, hsys, hcounters, hcauses⟩ := hkept
  constructor
  case replica => simp
  case session => simpa using hsession
  case silence => exact hsilence
  case slot => exact hslot
  case idle =>
    intro h
    rw [dropFrame_idle (s := { u with mirror.replica := .listening }) (happly ▸ h)]
    exact ⟨rfl, happly, hmem⟩
  case waiting =>
    intro h hwaits
    rw [dropFrame_waiting (s := { u with mirror.replica := .listening }) (happly ▸ h) (hmem ▸ hwaits), ← hmem]
    exact ⟨rfl, rfl, rfl⟩
  case atMemory =>
    intro h hnone
    rw [dropFrame_atMemory (s := { u with mirror.replica := .listening }) (.inl ⟨happly ▸ h, hmem ▸ hnone⟩)]
    refine ⟨rfl, hmem, ?_⟩
    by_cases hoff : dest = .off <;> simp [hslots, hoff, flushSlots, h]
  case linkDown =>
    have hcount := countLinkDown_linkDown s
    rw [State.hasCause] at hcount ⊢
    simpa only [flushSlots_keeps, abandonFrame_keeps, hcauses] using hcount
  case linkDowns =>
    rw [← countLinkDown_linkDowns]
    simp [State.counter, hcounters]
  all_goals simp [happly, hsys]

/-! ### The four causes -/

theorem breakStopBit_slots (s : State) : (breakStopBit s).rx.slots = s.rx.slots := by
  unfold breakStopBit
  split <;> rfl

theorem sameReplica_breakStopBit (s : State) : SameReplica s { breakStopBit s with rx.runReported := true } := by
  have hcounter := (lossAgrees_breakStopBit s).linkDowns
  exact ⟨by simp, by simp, by simp, by simp, breakStopBit_slots s, by simp, hcounter⟩

/-- What becomes of the transmitter depends on the transmitter alone. -/
theorem linkLeavesUp_tx_of_same {dest : LeaveTo} (withBreak : Bool) {s u : State} (h : u.tx = s.tx)
    (hdest : dest ≠ .connecting) : (linkLeavesUp dest withBreak u).tx = (linkLeavesUp dest withBreak s).tx := by
  have htx : (transmitterLeavesUp withBreak (stopSession (countLinkDown u))).tx =
      (transmitterLeavesUp withBreak (stopSession (countLinkDown s))).tx := by
    cases withBreak <;> cases hline : s.tx.line <;>
      simp [transmitterLeavesUp, requestBreak, emptyTransmitter, h, hline]
  cases dest with
  | connecting => exact absurd rfl hdest
  | down => simpa [linkLeavesUp, enterAfterUp] using htx
  | off => simpa [linkLeavesUp, enterAfterUp, enterOff_tx] using congrArg (lineIntoOff ·.line) htx

/-- The loss in one place: what it makes of a state that agrees with `s`. -/
theorem leaveUp_loses {dest : LeaveTo} (withBreak : Bool) {s u : State} (hsame : SameReplica s u) (htx : u.tx = s.tx)
    (hrole : s.role = .replica) (happlying : s.mirror.replica = .applying) (hdest : dest ≠ .connecting) :
    ReplicaLost s (leaveUp dest withBreak true u) ∧
      (leaveUp dest withBreak true u).link.state = dest.state .replica ∧
      (leaveUp dest withBreak true u).tx = (linkLeavesUp dest withBreak s).tx := by
  obtain ⟨hrole', happlying', -⟩ := id hsame
  have hu := hrole'.trans hrole
  refine ⟨(replicaLost_leaveUp withBreak hu (happlying'.trans happlying) hdest).of_same hsame, ?_, ?_⟩
  · rw [leaveUp_state, hu]
  · rw [leaveUp_replica_tx withBreak hu hdest, linkLeavesUp_tx_of_same withBreak htx hdest]

/-- Each cause is a loss, with its own effect on line, break and link state (R156, R160). -/
theorem exec_replicaLost {c : Instr} {s : State} (hp : s.porst = false) (hrole : s.role = .replica)
    (hup : s.link.state = .up) (happlying : s.mirror.replica = .applying)
    (hc : (c = .silenceTimerExpiry ∧ s.link.silenceTimer.isSome = true) ∨
      (c = .breakDetected ∧ s.rx.runReported = false) ∨
      (s.portReady ∧ (c = .linkReset ∨ c = .controlLinkEnable false))) :
    ∃ t, exec c s = .next t ∧ ReplicaLost s t ∧
      t.link.state = (if c = .controlLinkEnable false then .off else .connecting) ∧
      (c = .linkReset → t.tx = (linkLeavesUp .down true s).tx) ∧
      (c = .silenceTimerExpiry ∨ c = .breakDetected → t.tx = (linkLeavesUp .down false s).tx) ∧
      (c = .controlLinkEnable false → t.tx = (linkLeavesUp .off false s).tx) := by
  rcases hc with ⟨rfl, ht⟩ | ⟨rfl, hr⟩ | ⟨hready, rfl | rfl⟩
  · obtain ⟨hlost, hlink, htx⟩ := leaveUp_loses (dest := .down) false (s := s) (u := s) ⟨rfl, rfl, rfl, rfl, rfl, rfl, rfl⟩ rfl
      hrole happlying (by simp)
    exact ⟨_, exec_silenceTimerExpiry_up hp hup ht, hlost, hlink, by simp, fun _ => htx, by simp⟩
  · obtain ⟨hlost, hlink, htx⟩ := leaveUp_loses (dest := .down) false (sameReplica_breakStopBit s) (by simp) hrole
      happlying (by simp)
    exact ⟨_, exec_breakDetected_up hp hup hr, hlost, hlink, by simp, fun _ => htx, by simp⟩
  · obtain ⟨hlost, hlink, htx⟩ := leaveUp_loses (dest := .down) true (s := s) (u := selectPort (deselectPort s))
      ⟨rfl, rfl, rfl, rfl, rfl, rfl, rfl⟩ rfl hrole happlying (by simp)
    exact ⟨_, exec_linkReset_up hp hready hup, hlost.respond _, hlink, fun _ => htx, by simp, by simp⟩
  · obtain ⟨hlost, hlink, htx⟩ := leaveUp_loses (dest := .off) false (s := s)
      (u := { selectPort (deselectPort s) with control.linkEnable := false })
      ⟨rfl, rfl, rfl, rfl, rfl, rfl, rfl⟩ rfl hrole happlying (by simp)
    exact ⟨_, exec_linkEnable_clear_up hp hready hup, hlost.respond _, hlink, by simp, by simp, fun _ => htx⟩

/-- Settles O30: every cause is a loss as `ReplicaLost` lists it, with its own effect on line, break and link state. -/
theorem replicaLeavingUpKeepsItsFlags : Obligations.ReplicaLeavingUpKeepsItsFlags := by
  unfold Obligations.ReplicaLeavingUpKeepsItsFlags
  intro c s hp hrole hup happlying hc
  obtain ⟨t, hexec, hlost, hlink, hcut, hplain, hoff⟩ := exec_replicaLost hp hrole hup happlying hc
  obtain ⟨hreplica, hsession, hsilence, hslot, hidle, hwaiting, hmemory, hcoherent, hfresh, hfault, hexpected, hdown,
    hdowns, hsys⟩ := hlost
  refine ⟨t, hexec, fun h => ?_, fun h => ?_, fun h => ?_, hreplica, hsession, hlink, hsilence, hslot, hidle, hwaiting,
    hmemory, hcoherent, hfresh, hfault, hexpected, hdown, hdowns, hsys⟩
  · rw [hcut h]
    exact linkLeavesUp_line_break s
  · rw [hplain h]
    exact linkLeavesUp_line_plain s
  · rw [hoff h]
    exact (linkLeavesUp_line_off s).symm

end Sys2Proof.Machine
end

section
/-! What the receiver discards: framing errors, truncations and runs of space, a wrong CRC, and fields out of range
(R123, R129, R131, R132, R135, R156). -/

namespace Sys2Proof.Machine

/-! ### Framing errors -/

theorem framingToHunting_eq (s : State) : framingToHunting s = { s with
    rx.phase := .hunting, counters := s.counted .rxFraming, causes := s.raised .rxError } := rfl

theorem exec_receiverAlign_hunting {s : State} (hp : s.porst = false) (hopen : s.link.state ≠ .off)
    (hhunting : s.rx.phase = .hunting) :
    exec .receiverAlign s = .next { s with rx := { s.rx with phase := .between, runReported := false } } := by
  have hstep : exec .receiverAlign s = .next (unlessPorst receiverAlign s) := rfl
  rw [hstep, unlessPorst_deasserted _ hp, receiverAlign, if_pos ⟨hopen, hhunting⟩]

theorem exec_rxFraming_aligned {s : State} {c : FramingCheck} (hp : s.porst = false) (ha : s.aligned)
    (hc : isFramingError s.role c = true) : exec (.rxFraming c) s = .next { s with
      rx.phase := .hunting, counters := s.counted .rxFraming, causes := s.raised .rxError } := by
  have hstep : exec (.rxFraming c) s = .next (unlessPorst (rxFraming c) s) := rfl
  rw [hstep, unlessPorst_deasserted _ hp, rxFraming, if_pos (by simp [receiving_of_aligned ha, hc]), framingToHunting_eq]

theorem exec_rxTruncation_aligned {s : State} (hp : s.porst = false) (ha : s.aligned) :
    exec .rxTruncation s = .next { s with
      rx.phase := .hunting, counters := s.counted .rxFraming, causes := s.raised .rxError } := by
  have hstep : exec .rxTruncation s = .next (unlessPorst rxTruncation s) := rfl
  rw [hstep, unlessPorst_deasserted _ hp, rxTruncation, if_pos (receiving_of_aligned ha), framingToHunting_eq]

theorem not_receiving_of_hunting {s : State} (h : s.rx.phase = .hunting) : ¬ s.receiving = true := by
  simp [State.receiving, h]

/-- A hunting receiver counts nothing; a bad stop bit begins a new run (R131; log 25). -/
theorem exec_rxFraming_hunting {s : State} (c : FramingCheck) (hp : s.porst = false) (h : s.rx.phase = .hunting) :
    exec (.rxFraming c) s =
      .next { s with rx.runReported := s.rx.runReported && decide (c ≠ .badStopBit) } := by
  have hstep : exec (.rxFraming c) s = .next (unlessPorst (rxFraming c) s) := rfl
  rw [hstep, unlessPorst_deasserted _ hp, rxFraming, if_neg (by simp [not_receiving_of_hunting h])]
  by_cases hc : c = .badStopBit
  · simp [h, hc]
  · rw [if_neg fun hbad => hc hbad.2]
    simp [hc]

theorem exec_rxTruncation_hunting {s : State} (hp : s.porst = false) (h : s.rx.phase = .hunting) :
    exec .rxTruncation s = .next s := by
  have hstep : exec .rxTruncation s = .next (unlessPorst rxTruncation s) := rfl
  rw [hstep, unlessPorst_deasserted _ hp, rxTruncation, if_neg (not_receiving_of_hunting h)]

/-! ### A run of space -/

theorem breakStopBit_hunting {s : State} (h : s.rx.phase = .hunting) : breakStopBit s = s :=
  if_neg (not_receiving_of_hunting h)

theorem breakStopBit_aligned {s : State} (h : s.aligned) : breakStopBit s = framingToHunting s :=
  if_pos (receiving_of_aligned h)

theorem exec_breakDetected_unreported {s : State} (hp : s.porst = false)
    (h : s.link.state = .off ∨ s.rx.runReported = true) : exec .breakDetected s = .next s := by
  have hstep : exec .breakDetected s = .next (unlessPorst breakDetected s) := rfl
  rw [hstep, unlessPorst_deasserted _ hp, breakDetected, if_pos h]

/-- Outside UP the report is the receiver's alone (R135). -/
theorem exec_breakDetected_between {s : State} (hp : s.porst = false) (hreported : s.rx.runReported = false)
    (h : s.link.state = .down ∨ s.link.state = .connecting) :
    exec .breakDetected s = .next { breakStopBit s with rx.runReported := true } := by
  have hstep : exec .breakDetected s = .next (unlessPorst breakDetected s) := rfl
  have hreports : ¬ (s.link.state = .off ∨ s.rx.runReported = true) := by
    rcases h with h | h <;> simp [h, hreported]
  have hup : ¬ (breakStopBit s).link.state = .up := by
    rcases h with h | h <;> simp [h]
  rw [hstep, unlessPorst_deasserted _ hp, breakDetected, if_neg hreports]
  exact congrArg _ (if_neg hup)

/-- Leaving UP counts LINK_DOWNS alone (R156). -/
theorem leaveUp_counter {c : Counter} (dest : LeaveTo) (withBreak : Bool) (s : State) (h : Counter.linkDowns.index ≠ c.index) :
    (leaveUp dest withBreak true s).counter c = s.counter c := by
  have hcounters : (leaveUp dest withBreak true s).counters = (bump .linkDowns s).counters := by
    rw [leaveUp_eq]
    simp [linkOutOfUp, countLinkDown]
  rw [State.counter, hcounters]
  exact counter_bump_of_ne s h

/-- A cause that is set stays set while the link leaves UP (R191). -/
theorem leaveUp_hasCause {c : Cause} (dest : LeaveTo) (withBreak : Bool) {s : State} (h : s.hasCause c = true) :
    (leaveUp dest withBreak true s).hasCause c = true := by
  have hcauses : (linkOutOfUp dest withBreak true s).causes = (raise .linkDown s).causes := by
    simp [linkOutOfUp, countLinkDown]
  have hout : (linkOutOfUp dest withBreak true s).hasCause c = true := by
    rw [State.hasCause, hcauses]
    exact raise_hasCause .linkDown h
  rw [leaveUp_eq]
  generalize linkOutOfUp dest withBreak true s = u at *
  cases hrole : u.role with
  | origin =>
    rw [reportLeftUp_origin hrole]
    split
    · exact linkLossTransition_hasCause hout
    · exact hout
  | replica =>
    rw [reportLeftUp_replica hrole]
    simpa [State.hasCause] using hout

/-- In UP the report takes the link out of UP, whatever it found of the receiver (R131, R135, R156). -/
theorem exec_breakDetected_leaves {s : State} (hp : s.porst = false) (hreported : s.rx.runReported = false)
    (hup : s.link.state = .up) : ∃ t, exec .breakDetected s = .next t ∧ t.rx.phase = .hunting ∧
      t.rx.runReported = true ∧ t.link.state = (if s.role = .origin then .down else .connecting) ∧
      (s.rx.phase = .hunting → t.counter .rxFraming = s.counter .rxFraming) ∧
      (s.rx.phase ≠ .hunting → t.counter .rxFraming = saturate (s.counter .rxFraming) ∧ t.hasCause .rxError = true) := by
  obtain ⟨hphase, hrun⟩ := leaveUp_rx (dest := .down) false true { breakStopBit s with rx.runReported := true } (by simp)
  have hcounter := leaveUp_counter (c := .rxFraming) .down false { breakStopBit s with rx.runReported := true } (by decide)
  refine ⟨_, exec_breakDetected_up hp hup hreported, hphase.trans (breakStopBit_phase (by simp [hup])), hrun, ?_,
    fun h => ?_, fun h => ⟨?_, leaveUp_hasCause _ _ ?_⟩⟩
  · rw [leaveUp_state]
    simp [LeaveTo.state]
  · rw [hcounter]
    simp [breakStopBit_hunting h, State.counter]
  · rw [hcounter]
    simp [breakStopBit_aligned ⟨by simp [hup], h⟩, framingToHunting_eq, State.counter, State.counted]
  · rw [breakStopBit_aligned ⟨by simp [hup], h⟩]
    exact raise_hasCause_self .rxError s

/-! ### A wrong CRC, and fields out of range -/

/-- Every received frame is judged before it is disposed of (R131, R132). -/
theorem exec_received {c : Instr} {bytes : List Byte} (s : State) (hp : s.porst = false)
    (hc : c = .dataFrameReceived bytes ∨ c = .helloReceived bytes ∨ c = .helloAckReceived bytes ∨ c = .ackReceived bytes ∨
      c = .nakReceived bytes) : ∃ dispose, exec c s = .next (receiveBytes dispose bytes s) := by
  have hheld : ∀ dispose, Host.Outcome.next (unlessPorst (receiveBytes dispose bytes) s) =
      (.next (receiveBytes dispose bytes s) : Host.Outcome State Fault Refusal) :=
    fun dispose => congrArg _ (unlessPorst_deasserted _ hp)
  rcases hc with rfl | rfl | rfl | rfl | rfl <;> exact ⟨_, hheld _⟩

/-- The bytes of a frame under a CRC that is not theirs (R132). -/
theorem judgeBytes_wrongCrc {role : Role} {f : Frame} {crc : Word} (hkind : kindAccepted role f.body.code = true)
    (hcrc : crc ≠ crc32 f.covered) : judgeBytes role (f.covered ++ leBytes 4 crc.toNat) = .crcMismatch := by
  rw [covered_eq_headed] at hcrc ⊢
  rw [judgeBytes_headed f.seq crc (by rwa [headerCode_append]) (by rw [headerCode_append]; exact payload_length f.body),
    if_pos hcrc]

/-- A header and payload under their own CRC, with a field out of range (R131, condition 5). -/
theorem judgeBytes_outOfRange {role : Role} {byte0 byte1 : Byte} {payload : List Byte} (seq : Seq)
    (hkind : kindAccepted role (headerCode byte0) = true)
    (hlength : payload.length = requiredLength (headerCode byte0) (byte1.getLsbD 0))
    (hbody : ∀ tail, decodeBody (headed byte0 byte1 seq payload ++ tail) (headerCode byte0) byte1 = none) :
    judgeBytes role (headed byte0 byte1 seq payload ++ leBytes 4 (crc32 (headed byte0 byte1 seq payload)).toNat) =
      .fieldRange := by
  rw [judgeBytes_headed seq _ hkind hlength, if_neg (not_not.mpr rfl), hbody]
  rfl

/-- A WRITE of a line address that is no line's (R131, condition 5). -/
theorem judgeBytes_writeOutOfRange (session : SessionNo) (flags : Byte) (seq : Seq) {field : Word} {rest : List Byte}
    (hlength : rest.length = 18) (hfield : field.toNat % 16 ≠ 0 ∨ 0x3FFFFF0 < field.toNat) :
    judgeBytes .replica (headed (2#4 ++ session) flags seq (leBytes 4 field.toNat ++ rest) ++
      leBytes 4 (crc32 (headed (2#4 ++ session) flags seq (leBytes 4 field.toNat ++ rest))).toNat) = .fieldRange := by
  refine judgeBytes_outOfRange seq ?_ ?_ fun tail => ?_
  · rw [headerCode_append]
    rfl
  · rw [headerCode_append, List.length_append, leBytes_length, hlength]
    rfl
  · have hnumber := headed_firstNumber (2#4 ++ session) flags seq tail 4 field.toNat rest rfl field.isLt
    have hrange : ¬ (field.toNat % 16 = 0 ∧ field.toNat ≤ 0x3FFFFF0) := by omega
    rw [headerCode_append]
    simp only [decodeBody, hnumber, if_neg hrange]
    rfl

/-- A BLOCK of a number that is no block's (R131, condition 5). -/
theorem judgeBytes_blockOutOfRange (session : SessionNo) (flags : Byte) (seq : Seq) {field : Word} {rest : List Byte}
    (hlength : rest.length = if flags.getLsbD 0 then 0 else 1024) (hfield : 65535 < field.toNat) :
    judgeBytes .replica (headed (3#4 ++ session) flags seq (leBytes 4 field.toNat ++ rest) ++
      leBytes 4 (crc32 (headed (3#4 ++ session) flags seq (leBytes 4 field.toNat ++ rest))).toNat) = .fieldRange := by
  refine judgeBytes_outOfRange seq ?_ ?_ fun tail => ?_
  · rw [headerCode_append]
    rfl
  · rw [headerCode_append, List.length_append, leBytes_length, hlength]
    cases flags.getLsbD 0 <;> rfl
  · have hnumber := headed_firstNumber (3#4 ++ session) flags seq tail 4 field.toNat rest rfl field.isLt
    have hrange : ¬ field.toNat ≤ 65535 := by omega
    rw [headerCode_append]
    simp only [decodeBody, hnumber, if_neg hrange]
    rfl

/-- Settles O22: framing errors and runs of space by the receiver's phase, then the CRC and the fields. -/
theorem framingErrorsAndWrongCrcDiscard : Obligations.FramingErrorsAndWrongCrcDiscard := by
  unfold Obligations.FramingErrorsAndWrongCrcDiscard
  refine ⟨fun s hp => ⟨exec_receiverAlign_hunting hp,
      fun ha => ⟨fun _ hc => exec_rxFraming_aligned hp ha hc, exec_rxTruncation_aligned hp ha⟩,
      fun h => ⟨fun c => exec_rxFraming_hunting c hp h, exec_rxTruncation_hunting hp h⟩⟩,
    fun s hp => ⟨exec_breakDetected_unreported hp, fun hreported => ⟨fun hlink => ⟨fun h => ?_, fun h => ?_⟩,
      exec_breakDetected_leaves hp hreported⟩⟩,
    fun f crc s hp ha hkind hcrc c hc => ?_, fun session flags seq field rest covered s hp ha hrole hcovered => ?_⟩
  · rw [exec_breakDetected_between hp hreported hlink, breakStopBit_hunting h]
  · have ha : s.aligned := ⟨by rcases hlink with h | h <;> simp [h], h⟩
    rw [exec_breakDetected_between hp hreported hlink, breakStopBit_aligned ha, framingToHunting_eq]
  · obtain ⟨dispose, hexec⟩ := exec_received s hp hc
    rw [hexec, receiveBytes_aligned dispose _ ha (.inl ⟨judgeBytes_wrongCrc hkind hcrc, rfl⟩)]
    rfl
  · have hjudge : judgeBytes s.role (covered ++ leBytes 4 (crc32 covered).toNat) = .fieldRange := by
      rw [hrole]
      rcases hcovered with ⟨hlength, hfield, rfl⟩ | ⟨hlength, hfield, rfl⟩
      · have hcovered := judgeBytes_writeOutOfRange session flags seq hlength hfield
        simpa [headed, hlength] using hcovered
      · have hcovered := judgeBytes_blockOutOfRange session flags seq hlength hfield
        simpa [headed] using hcovered
    obtain ⟨dispose, hexec⟩ := exec_received s hp (.inl rfl)
    rw [hexec, receiveBytes_aligned dispose _ ha (.inr (.inl ⟨hjudge, rfl⟩))]
    rfl

end Sys2Proof.Machine
end

section
/-! The verdicts of the apply engine that no LINE WRITE follows: stale frames, PROBEs, duplicates, gaps and unordered
frames, and the MARK and the poisoned BLOCK next in line (R124, R168, R171 to R176). -/

namespace Sys2Proof.Machine

/-! ### The control slot -/

/-- A pending HELLO_ACK stays before an ACK or a NAK (R124). -/
theorem offeredSlot_keepsHelloAck {slot : Option Frame} {g : Frame} (hslot : ∃ n q fresh, slot = some ⟨n, q, .helloAck fresh⟩)
    (hg : ∃ fault, g.body = .ack fault ∨ g.body = .nak fault) : offeredSlot slot g = slot := by
  obtain ⟨n, q, fresh, rfl⟩ := hslot
  obtain ⟨fault, hbody | hbody⟩ := hg <;> simp [offeredSlot, hbody]

/-- In every other case the frame offered takes the slot (R124). -/
theorem offeredSlot_replaces {slot : Option Frame} {g : Frame} (h : ¬ ((∃ n q fresh, slot = some ⟨n, q, .helloAck fresh⟩) ∧
    ∃ fault, g.body = .ack fault ∨ g.body = .nak fault)) : offeredSlot slot g = some g := by
  unfold offeredSlot
  split
  case h_1 hbody => exact absurd ⟨⟨_, _, _, rfl⟩, _, .inl hbody⟩ h
  case h_2 hbody => exact absurd ⟨⟨_, _, _, rfl⟩, _, .inr hbody⟩ h
  case h_3 => rfl

theorem offerAck_eq {s : State} (hlink : s.link.state ≠ .off) : offerAck s = { s with
    apply := { s.apply with ackCount := 0, lastAckSent := s.apply.expected - 1 }
    tx.slot := offeredSlot s.tx.slot ⟨s.link.session, s.apply.expected - 1, .ack s.apply.fault⟩ } := by
  rw [offerAck, offerControl, if_neg hlink]

theorem offerNak_eq {s : State} (hlink : s.link.state ≠ .off) : offerNak s = { s with
    apply := { s.apply with ackCount := 0, lastNaked := some s.apply.expected }
    tx.slot := offeredSlot s.tx.slot ⟨s.link.session, s.apply.expected, .nak s.apply.fault⟩ } := by
  rw [offerNak, offerControl, if_neg hlink]

/-! ### The verdict on a frame -/

theorem isStale_iff (s : State) (f : Frame) :
    s.isStale f = true ↔ f.session ≠ s.link.session ∨ s.link.session = 0 := by
  simp [State.isStale]

theorem not_isStale {s : State} {f : Frame} (hsession : f.session = s.link.session) (hopen : s.link.session ≠ 0) :
    ¬ s.isStale f = true := by
  rw [isStale_iff]
  exact fun h => h.elim (· hsession) hopen

theorem ne_probe_of_isData {b : FrameBody} (h : b.isData = true) : b ≠ .probe := by
  rintro rfl
  cases h

theorem ne_of_precedes {a b : Seq} (h : precedes a b = true) : a ≠ b := by
  rintro rfl
  simp [precedes] at h

/-- The serial order is asymmetric. -/
theorem not_precedes_of_precedes {a b : Seq} (h : precedes a b = true) : ¬ precedes b a = true := by
  rw [precedes_of_atOrBefore (by rw [atOrBefore, h, Bool.true_or])]
  exact Bool.false_ne_true

theorem judgeFrame_stale {s : State} {f : Frame} (h : f.session ≠ s.link.session ∨ s.link.session = 0) :
    judgeFrame f s = bump .rxStale (releaseSlot s) := by
  rw [judgeFrame, if_pos ((isStale_iff s f).mpr h)]

theorem judgeFrame_probe {s : State} {f : Frame} (hcurrent : ¬ s.isStale f = true) (hbody : f.body = .probe) :
    judgeFrame f s = offerAck (releaseSlot s) := by
  rw [judgeFrame, if_neg hcurrent, if_pos hbody]

theorem judgeFrame_duplicate {s : State} {f : Frame} (hcurrent : ¬ s.isStale f = true) (hprobe : f.body ≠ .probe)
    (hseq : precedes f.seq s.apply.expected = true) : judgeFrame f s = offerAck (bump .rxStale (releaseSlot s)) := by
  rw [judgeFrame, if_neg hcurrent, if_neg hprobe, if_neg (ne_of_precedes hseq), if_pos hseq]

theorem judgeFrame_gap {s : State} {f : Frame} (hcurrent : ¬ s.isStale f = true) (hprobe : f.body ≠ .probe)
    (hseq : precedes s.apply.expected f.seq = true) : judgeFrame f s = takeGap s := by
  rw [judgeFrame, if_neg hcurrent, if_neg hprobe, if_neg (ne_of_precedes hseq).symm,
    if_neg (not_precedes_of_precedes hseq), if_pos hseq]

theorem judgeFrame_unordered {s : State} {f : Frame} (hcurrent : ¬ s.isStale f = true) (hprobe : f.body ≠ .probe)
    (hseq : f.seq ≠ s.apply.expected) (hbefore : precedes f.seq s.apply.expected = false)
    (hafter : precedes s.apply.expected f.seq = false) : judgeFrame f s = bump .protocol (releaseSlot s) := by
  rw [judgeFrame, if_neg hcurrent, if_neg hprobe, if_neg hseq, if_neg (ne_true_of_eq_false hbefore),
    if_neg (ne_true_of_eq_false hafter)]

/-- Settles O31: each verdict releases the slot, counts and offers what its rule says. -/
theorem framesNotNextInLineAreReleased : Obligations.FramesNotNextInLineAreReleased := by
  unfold Obligations.FramesNotNextInLineAreReleased
  refine ⟨fun f raw rest s hp hrole hidle hslots => ?_, fun slot g => ⟨fun hslot hg => offeredSlot_keepsHelloAck hslot hg,
    offeredSlot_replaces⟩⟩
  have hrelease : releaseSlot s = { s with rx.slots := rest } := releaseSlot_eq hslots
  rw [exec_applyTakeFrame_first hp hrole hidle hslots]
  refine ⟨fun hstale => ?_, fun hsession hopen hlink => ⟨_, _, rfl, rfl, fun hbody => ?_, fun hdata => ?_⟩⟩
  · rw [judgeFrame_stale hstale, hrelease]
    rfl
  · rw [judgeFrame_probe (not_isStale hsession hopen) hbody, offerAck_eq (s := releaseSlot s) hlink, hrelease]
  · have hcurrent := not_isStale hsession hopen
    have hprobe := ne_probe_of_isData hdata
    refine ⟨fun hbefore => ?duplicate, fun hafter => ?gap, fun hseq hbefore hafter => ?unordered⟩
    case duplicate =>
      rw [judgeFrame_duplicate hcurrent hprobe hbefore, offerAck_eq (s := bump .rxStale (releaseSlot s)) hlink, hrelease]
      rfl
    case gap =>
      rw [judgeFrame_gap hcurrent hprobe hafter, takeGap]
      refine ⟨fun hfirst => ?_, fun hnaked => ?_⟩
      · rw [if_neg hfirst, offerNak_eq (s := releaseSlot s) hlink, hrelease]
      · rw [if_pos hnaked, hrelease]
    case unordered =>
      rw [judgeFrame_unordered hcurrent hprobe hseq hbefore hafter, hrelease]
      rfl

/-! ### An apply that ends in the step that takes its frame -/

/-- The part once an apply has ended and before any ACK is offered (R173). -/
def applyEnded (rest : List Slot) (s : State) : State := { s with
  rx.slots := rest
  apply := { s.apply with
    expected := s.apply.expected + 1, fresh := false, ackCount := s.apply.ackCount + 1 } }

/-- The end of an apply without a LINE WRITE: the engine was IDLE and is IDLE again (R168, R173). -/
theorem applyEnd_idle {c : Slot} {rest : List Slot} {s : State} (hidle : s.apply.phase = .idle)
    (hslots : s.rx.slots = c :: rest) (hlink : s.link.state ≠ .off) :
    (s.apply.ackCount + 1 < s.cfg.ackEvery.toNat → rest ≠ [] → applyEnd s = applyEnded rest s) ∧
    (s.cfg.ackEvery.toNat ≤ s.apply.ackCount + 1 ∨ rest = [] → applyEnd s = { applyEnded rest s with
      apply := { (applyEnded rest s).apply with ackCount := 0, lastAckSent := s.apply.expected }
      tx.slot := offeredSlot s.tx.slot ⟨s.link.session, s.apply.expected, .ack s.apply.fault⟩ }) := by
  refine ⟨fun hcount hrest => ?_, fun hack => ?_⟩
  · rw [applyEnd_silent hslots hcount hrest, ← hidle]
    rfl
  · rw [applyEnd_acknowledges hslots hack hlink, ← hidle]
    rfl

/-- What the engine notes of a MARK before its apply ends (R172). -/
def noteMark (number : MarkNo) (consistent : Bool) (s : State) : State := { s with
  apply := { s.apply with
    lastMark := number, coherent := consistent && !s.apply.fault
    lastConsistent := if consistent = true ∧ s.apply.fault = false then number else s.apply.lastConsistent } }

theorem applyMark_eq (number : MarkNo) (consistent : Bool) (s : State) :
    applyMark number consistent s = applyEnd (noteMark number consistent s) := by
  cases consistent <;> cases hfault : s.apply.fault <;> simp [applyMark, noteMark, hfault]

theorem applyFrame_mark {f : Frame} {number : MarkNo} {c d : Bool} (s : State) (h : f.body = .mark number c d) :
    applyFrame f s = applyEnd (noteMark number c s) := by
  rw [← applyMark_eq, applyFrame, h]

theorem applyFrame_poisoned {f : Frame} {number : Block} (s : State) (h : f.body = .poisoned number) :
    applyFrame f s = applyEnd (bump .copyFaultsOrPoisonedRx { s with apply.coherent := false }) := by
  rw [applyFrame, h]
  rfl

/-- Settles O32: the engine notes the mark, and the apply ends. -/
theorem markNextInLineIsApplied : Obligations.MarkNextInLineIsApplied := by
  unfold Obligations.MarkNextInLineIsApplied
  intro f number c d raw rest s hp hrole hidle hslots hsession hopen hlink hseq hbody
  have hexec : exec .applyTakeFrame s = .next (applyEnd (noteMark number c s)) := by
    rw [exec_applyTakeFrame_first hp hrole hidle hslots, judgeFrame_expected hsession hopen hseq (by simp [hbody]),
      applyFrame_mark s hbody]
  obtain ⟨hsilent, hacknowledges⟩ := applyEnd_idle (s := noteMark number c s) hidle hslots hlink
  rw [hexec]
  exact ⟨applyEnded rest (noteMark number c s), rfl, fun hcount hrest => congrArg _ (hsilent hcount hrest),
    fun hack => congrArg _ (hacknowledges hack)⟩

/-- Settles O33: the block is counted, the coherent flag cleared, and the apply ends. -/
theorem poisonedBlockNextInLineIsApplied : Obligations.PoisonedBlockNextInLineIsApplied := by
  unfold Obligations.PoisonedBlockNextInLineIsApplied
  intro f number raw rest s hp hrole hidle hslots hsession hopen hlink hseq hbody
  have hexec : exec .applyTakeFrame s =
      .next (applyEnd (bump .copyFaultsOrPoisonedRx { s with apply.coherent := false })) := by
    rw [exec_applyTakeFrame_first hp hrole hidle hslots, judgeFrame_expected hsession hopen hseq (by simp [hbody]),
      applyFrame_poisoned s hbody]
  obtain ⟨hsilent, hacknowledges⟩ :=
    applyEnd_idle (s := bump .copyFaultsOrPoisonedRx { s with apply.coherent := false }) hidle hslots hlink
  rw [hexec]
  exact ⟨applyEnded rest _, rfl, fun hcount hrest => congrArg _ (hsilent hcount hrest),
    fun hack => congrArg _ (hacknowledges hack)⟩

end Sys2Proof.Machine
end

section
/-! The counters and the causes one by one (R190, R191), and CLEAR_COUNTERS (R189). -/

namespace Sys2Proof.Machine

/-! ### Places of causes and counters -/

theorem Cause.bit_lt (c : Cause) : c.bit < 13 := by
  cases c <;> decide

/-- Each bit of CAUSE is a cause's (R191). -/
theorem Cause.bit_ofNat {i : Nat} (h : i < 13) : (Cause.ofNat i).bit = i := by
  interval_cases i <;> rfl

theorem Cause.bit_injective : Function.Injective Cause.bit :=
  Function.LeftInverse.injective (g := Cause.ofNat) fun c => by cases c <;> rfl

theorem Counter.index_injective : Function.Injective Counter.index :=
  Function.LeftInverse.injective (g := fun i => Counter.ofNat i.val) fun c => by cases c <;> rfl

/-! ### One event, one raise -/

theorem saturate_eq (n : BitVec 16) : saturate n = if n = 65535 then 65535 else n + 1 := by
  unfold saturate
  split
  · assumption
  · rfl

theorem counted_getElem (s : State) (c d : Counter) :
    (s.counted c)[d.index] = if c = d then saturate s.counters[d.index] else s.counters[d.index] := by
  by_cases h : c = d
  · simp [State.counted, h]
  · have hindex : c.index.val ≠ d.index.val := fun hi => h (Counter.index_injective (Fin.ext hi))
    simp [State.counted, h, hindex]

theorem raised_getLsbD (s : State) (c d : Cause) :
    (s.raised c).getLsbD d.bit = (decide (c = d) || s.causes.getLsbD d.bit) := by
  have hplace : ((1#13 : BitVec 13) <<< c.bit).getLsbD d.bit = decide (c = d) := by
    rw [← BitVec.twoPow_eq, BitVec.getLsbD_twoPow]
    simp [c.bit_lt, Cause.bit_injective.eq_iff]
  rw [State.raised, BitVec.getLsbD_or, hplace, Bool.or_comm]

/-- Settles O5: an event and a raise at their own place and at any other. -/
theorem countersSaturateAndCausesStick : Obligations.CountersSaturateAndCausesStick := by
  unfold Obligations.CountersSaturateAndCausesStick
  refine fun s => ⟨fun c d => ?_, raised_getLsbD s, fun _ => rfl, fun _ => rfl⟩
  rw [counted_getElem, saturate_eq]

/-! ### CLEAR_COUNTERS -/

theorem exec_clearCounters {s : State} (hp : s.porst = false) (hready : s.portReady) : exec .clearCounters s =
    .next { s with sp := s.answered .accepted, counters := Vector.replicate 13 0 } :=
  exec_served hp hready rfl

/-- What counters that all stand at 0 read after one event (R189, R190). -/
theorem bump_counter_of_cleared {s : State} (h : s.counters = Vector.replicate 13 0) (c d : Counter) :
    (bump c s).counter d = if c = d then 1 else 0 := by
  have hcounted : (bump c s).counter d = (s.counted c)[d.index] := rfl
  rw [hcounted, counted_getElem, h]
  simp [saturate]

/-- Settles O42: the counters alone are cleared, and the events before and after come to 0 and 1. -/
theorem clearCountersClearsAllThirteen : Obligations.ClearCountersClearsAllThirteen := by
  unfold Obligations.ClearCountersClearsAllThirteen
  intro s hp hready
  have hexec := exec_clearCounters hp hready
  refine ⟨hexec, fun c => ?_, fun t c ht => ?_⟩
  · rw [hexec]
    exact exec_clearCounters (s := bump c s) hp hready
  · obtain rfl := Host.Outcome.next.inj (hexec.symm.trans ht)
    refine ⟨rfl, ?_, fun d hd => ?_⟩
    · rw [bump_counter_of_cleared rfl, if_pos rfl]
    · rw [bump_counter_of_cleared rfl, if_neg hd.symm]

end Sys2Proof.Machine
end

section
/-! The step: the front command, or on an empty queue one byte time of the service port (R181, R188). -/

namespace Sys2Proof.Machine

theorem step_front {c : Instr} {rest : List Instr} {s : State} (h : s.pending = c :: rest) :
    step s = exec c { s with pending := rest } := by
  simp [step, h]

theorem step_empty {s : State} (h : s.pending = []) : step s = .next (serviceByteTime s) := by
  simp [step, h]

/-! ### One byte time of the service port -/

theorem serviceByteTime_idle {s : State}
    (h : s.porst = true ∨ s.sp.resetPending = true ∨ s.sp.phase = .deselected) : serviceByteTime s = s := by
  rcases h with h | h | h <;> simp [serviceByteTime, h]

/-- A transaction that is no WRITE goes on through its DATA bytes, and past the fourth to its response. -/
theorem serviceByteTime_data {s : State} {opcode index : Byte} {received : List Byte} (hp : s.porst = false)
    (hr : s.sp.resetPending = false) (hphase : s.sp.phase = .data opcode index received) (hop : opcode ≠ 2) :
    serviceByteTime s = { s with
      sp.phase := if received.length < 3 then .data opcode index (received ++ [0]) else .response } := by
  have hread : ¬ opcode = 2#8 := hop
  have hclock : serviceByteTime s = clockByte 0 s := by simp [serviceByteTime, hp, hr, hphase, hread]
  rw [hclock]
  by_cases hlength : received.length < 3
  · simp [clockByte, hphase, hlength]
  · simp [clockByte, hphase, hlength, takeAtDataEnd, hread]

theorem serviceByteTime_response {s : State} (hp : s.porst = false) (hr : s.sp.resetPending = false)
    (hphase : s.sp.phase = .response) : serviceByteTime s = { s with sp.phase := .done } := by
  simp [serviceByteTime, hp, hr, hphase, clockByte]

/-- Past its response, or ignored, a transaction only ends with SPSEL deasserted (R181, R193). -/
theorem serviceByteTime_ends {s : State} (hp : s.porst = false) (hr : s.sp.resetPending = false)
    (hphase : s.sp.phase = .done ∨ s.sp.phase = .ignored) : serviceByteTime s = deselectPort s := by
  rcases hphase with h | h <;> simp [serviceByteTime, hp, hr, h]

/-- Settles O1: the queue's front, then the port's byte time by its phase. -/
theorem stepTakesFrontCommand : Obligations.StepTakesFrontCommand := by
  unfold Obligations.StepTakesFrontCommand
  refine ⟨fun c rest s h => step_front h, fun s hempty => ?_⟩
  rw [step_empty hempty]
  refine ⟨fun h => congrArg _ (serviceByteTime_idle h), fun hp hr => ⟨fun opcode index received hphase hop => ?_,
    fun h => congrArg _ (serviceByteTime_response hp hr h), fun h => congrArg _ (serviceByteTime_ends hp hr h)⟩⟩
  rw [serviceByteTime_data hp hr hphase hop]
  exact ⟨fun h => by rw [if_pos h], fun h => by rw [if_neg (Nat.not_lt.mpr h)]⟩

end Sys2Proof.Machine
end

section
/-! CAUSE and ENABLE as written, what keeps and what clears them (R191), and IRQ (R192). -/

namespace Sys2Proof.Machine

/-! ### CAUSE, bit by bit -/

/-- Two values of CAUSE that agree on every cause are the same. -/
theorem causes_ext {x y : BitVec 13} (h : ∀ c : Cause, x.getLsbD c.bit = y.getLsbD c.bit) : x = y := by
  refine BitVec.eq_of_getLsbD_eq fun i hi => ?_
  simpa only [Cause.bit_ofNat hi] using h (Cause.ofNat i)

/-- Raising a cause that is set changes nothing (R191). -/
theorem raise_of_hasCause {c : Cause} {s : State} (h : s.hasCause c = true) : raise c s = s := by
  have hcauses : s.raised c = s.causes := by
    refine causes_ext fun d => ?_
    rw [raised_getLsbD]
    by_cases hcd : c = d
    · subst hcd
      simpa [State.hasCause] using h
    · simp [hcd]
  calc raise c s = { s with causes := s.raised c } := rfl
    _ = s := by rw [hcauses]

/-- The bits written as 1 are cleared (R191). -/
theorem clearedCauses_getLsbD (x : BitVec 13) (v : Word) (c : Cause) :
    (x &&& ~~~ (v.extractLsb' 0 13)).getLsbD c.bit = (x.getLsbD c.bit && !v.getLsbD c.bit) := by
  simp [c.bit_lt]

theorem exec_cause {s : State} (v : Word) (hp : s.porst = false) (hready : s.portReady) : exec (.cause v) s =
    .next { s with sp := s.answered .accepted, causes := s.causes &&& ~~~ (v.extractLsb' 0 13) } :=
  exec_served hp hready rfl

/-- A cause raised before a WRITE to CAUSE stays as the WRITE leaves it (R191). -/
theorem exec_cause_raise {s : State} (v : Word) (c : Cause) (hp : s.porst = false) (hready : s.portReady) :
    ∃ u, exec (.cause v) (raise c s) = .next u ∧ u.hasCause c = !v.getLsbD c.bit := by
  refine ⟨_, exec_cause (s := raise c s) v hp hready, ?_⟩
  have hraised : (raise c s).causes.getLsbD c.bit = true := raise_hasCause_self c s
  rw [State.hasCause, clearedCauses_getLsbD, hraised, Bool.true_and]

/-! ### SOFT_RESET, SRST and CLEAR_COUNTERS -/

theorem takeSoftReset_flags (pins : RequestPins) (selected : Bool) {s : State} (h : s.sp.resetPending = true) :
    (takeSoftReset pins selected s).causes = 0 ∧ (takeSoftReset pins selected s).enables = 0 := by
  rw [takeSoftReset, if_pos h]
  exact ⟨rfl, rfl⟩

/-- SRST is the system port's, and CLEAR_COUNTERS, served or not, reaches the counters alone: CAUSE and ENABLE stay
(R189, R191, R192). -/
theorem exec_keepsFlags {c : Instr} {s : State} (h : c = .srstAssert ∨ c = .srstDeassert ∨
    (c = .clearCounters ∧ s.sp.resetPending = false)) :
    ∃ u, exec c s = .next u ∧ u.causes = s.causes ∧ u.enables = s.enables := by
  rcases h with rfl | rfl | ⟨rfl, hr⟩
  · refine ⟨srstAssert s, rfl, ?_⟩
    unfold srstAssert
    split <;> simp
  · exact ⟨srstDeassert s, rfl, rfl, rfl⟩
  · refine ⟨whenServed commandClearCounters s, rfl, ?_⟩
    unfold whenServed
    rw [endTransaction_ready s hr]
    split
    · exact ⟨rfl, rfl⟩
    · split <;> exact ⟨rfl, rfl⟩

/-! ### START and STOP -/

/-- A command that is accepted or refused keeps the causes that its effect keeps. -/
theorem acceptIf_hasCause {ok : Bool} {f : State → State} {s : State} {d : Cause} (hs : s.hasCause d = true)
    (hf : (f s).hasCause d = true) : (acceptIf ok f s).hasCause d = true := by
  unfold acceptIf
  split
  · exact hf
  · exact hs

theorem fenceWaiting_hasCause {s : State} {d : Cause} (h : s.hasCause d = true) : (fenceWaiting s).hasCause d = true := by
  unfold fenceWaiting
  split
  · split
    · dsimp only
      split
      · exact raise_hasCause .fence h
      · exact h
    · exact h
  · exact h

theorem startOrigin_causes {s : State} (hrole : s.role = .origin) : (startOrigin s).causes = s.causes := by
  rw [startOrigin_eq hrole]
  split <;> simp [seedOrigin]

theorem commandStart_hasCause {s : State} {d : Cause} (h : s.hasCause d = true) : (commandStart s).hasCause d = true := by
  refine acceptIf_hasCause h ?_
  cases hrole : s.role with
  | origin =>
    dsimp only
    rwa [State.hasCause, startOrigin_causes hrole]
  | replica => exact fenceWaiting_hasCause (s := openReplica s) h

/-- The new session of STOP is the link's alone: the causes are those of the part within (R104, R159). -/
theorem stopOrigin_causes {s : State} (hrole : s.role = .origin) :
    (stopOrigin s).causes = (stopMirroring s).causes := by
  have hrole' : (stopMirroring s).role = .origin := by simp [hrole]
  rw [stopOrigin, renewSession_disabled hrole' rfl]
  split <;> simp

theorem stopMirroring_hasCause {s : State} {d : Cause} (h : s.hasCause d = true) :
    (stopMirroring s).hasCause d = true := by
  rw [State.hasCause, stopMirroring_causes]
  split
  · exact h
  · exact raise_hasCause .drainFailed h

theorem commandStop_hasCause {s : State} {d : Cause} (h : s.hasCause d = true) : (commandStop s).hasCause d = true := by
  refine acceptIf_hasCause h ?_
  cases hrole : s.role with
  | origin =>
    dsimp only
    rw [State.hasCause, stopOrigin_causes hrole]
    exact stopMirroring_hasCause h
  | replica =>
    obtain ⟨-, -, -, -, hcauses, -⟩ := stopReplica_keeps_endReplica hrole
    dsimp only
    rwa [State.hasCause, hcauses]

/-- Settles O46: a WRITE to CAUSE bit by bit, its order with a raise, and the commands that keep or clear CAUSE. -/
theorem causeWriteClearsWrittenOnes : Obligations.CauseWriteClearsWrittenOnes := by
  unfold Obligations.CauseWriteClearsWrittenOnes
  refine ⟨fun pins selected s hp hr => ?_, fun v s hp hready => ⟨_, exec_cause v hp hready, rfl,
    clearedCauses_getLsbD s.causes v, fun c => ⟨raise_hasCause_self c _, raise_hasCause_self c s,
    exec_cause_raise v c hp hready⟩, fun _ => raise_of_hasCause, ⟨_, rfl, rfl⟩, fun c hc => ?_, fun c hc => ?_⟩⟩
  · obtain ⟨hcauses, -⟩ := takeSoftReset_flags pins selected hr
    exact ⟨_, exec_softResetTaken pins selected hp, hcauses⟩
  · obtain ⟨u, hexec, hcauses, -⟩ := exec_keepsFlags (hc.imp_right (Or.imp_right fun hclear => ⟨hclear, hready.2⟩))
    exact ⟨u, hexec, hcauses⟩
  · rcases hc with rfl | rfl
    · exact ⟨_, exec_served hp hready rfl, fun d hd => commandStart_hasCause hd⟩
    · exact ⟨_, exec_served hp hready rfl, fun d hd => commandStop_hasCause hd⟩

/-! ### IRQ -/

theorem irq_iff (s : State) :
    s.irq = true ↔ ∃ c : Cause, s.hasCause c = true ∧ s.enables.getLsbD c.bit = true := by
  have hzero : s.causes &&& s.enables = 0 ↔ ∀ c : Cause, (s.causes &&& s.enables).getLsbD c.bit = false :=
    ⟨fun h c => by simp [h], fun h => causes_ext fun c => by simpa using h c⟩
  rw [State.irq, bne_iff_ne, ne_eq, hzero]
  simp [State.hasCause]

theorem irq_of_causes_eq_zero {s : State} (h : s.causes = 0) : s.irq = false := by
  simp [State.irq, h]

/-- IRQ looks at CAUSE and ENABLE alone. -/
theorem irq_congr {s t : State} (hcauses : t.causes = s.causes) (henables : t.enables = s.enables) : t.irq = s.irq := by
  simp [State.irq, hcauses, henables]

/-- Settles O47: IRQ by the causes and their enables, and the commands that write, clear or keep ENABLE. -/
theorem irqFollowsCausesAndEnables : Obligations.IrqFollowsCausesAndEnables := by
  unfold Obligations.IrqFollowsCausesAndEnables
  refine ⟨irq_iff, fun v s hp hready => exec_served hp hready rfl,
    fun s => ⟨_, rfl, rfl, irq_of_causes_eq_zero rfl⟩, fun pins selected s hp hr => ?_, fun c s hc => ?_,
    fun s c => ⟨rfl, raise_hasCause_self c s, fun henable => ?_⟩⟩
  · obtain ⟨hcauses, henables⟩ := takeSoftReset_flags pins selected hr
    exact ⟨_, exec_softResetTaken pins selected hp, henables, irq_of_causes_eq_zero hcauses⟩
  · obtain ⟨u, hexec, hcauses, henables⟩ := exec_keepsFlags hc
    exact ⟨u, hexec, henables, irq_congr hcauses henables⟩
  · exact (irq_iff _).mpr ⟨c, raise_hasCause_self c s, henable⟩

end Sys2Proof.Machine
end

section
/-! What every command leaves alone: the queue (log 7). No command is refused or faults (log 6, log 27). -/

namespace Sys2Proof.Machine

/-! ### The service port -/

theorem setEnable_pending (v : Bool) (s : State) : (setEnable v s).pending = s.pending := by
  cases v <;> simp [setEnable]

theorem servedStep_pending {s t : State} (h : ServedStep s t) : t.pending = s.pending := by
  cases h with
  | linkEnable v => exact setEnable_pending v s
  | _ => simp

/-- No transaction of the service port reaches the queue: none of the steps it is a run of does. -/
theorem served_pending {s t : State} (h : Served s t) : t.pending = s.pending :=
  h.keeps (R := fun s t => t.pending = s.pending) (fun _ => rfl) (fun hst htu => htu.trans hst) servedStep_pending

/-! ### The system port, the memory port and the apply engine -/

theorem masterTransaction_pending (r : MasterRequest) (s : State) : (masterTransaction r s).pending = s.pending := by
  unfold masterTransaction
  dsimp only
  (repeat' split) <;> simp

theorem systemMemoryAnswer_pending (answer : MemAnswer) (data : Line) (s : State) :
    (systemMemoryAnswer answer data s).pending = s.pending := by
  unfold systemMemoryAnswer
  (repeat' split) <;> simp

theorem completionTaken_pending (s : State) : (completionTaken s).pending = s.pending := by
  unfold completionTaken
  split <;> rfl

theorem stallExpiry_pending (s : State) : (stallExpiry s).pending = s.pending := by
  unfold stallExpiry
  (repeat' split) <;> simp

theorem heldWriteAckReport_pending (s : State) : (heldWriteAckReport s).pending = s.pending := by
  unfold heldWriteAckReport
  dsimp only
  (repeat' split) <;> simp

theorem srstAssert_pending (s : State) : (srstAssert s).pending = s.pending := by
  unfold srstAssert
  split <;> simp

theorem applyTakeFrame_pending (s : State) : (applyTakeFrame s).pending = s.pending := by
  unfold applyTakeFrame
  (repeat' split) <;> simp

theorem applyWriteAnswer_pending (answer : MemAnswer) (s : State) :
    (applyWriteAnswer answer s).pending = s.pending := by
  unfold applyWriteAnswer
  dsimp only
  (repeat' split) <;> simp

/-! ### The mirror controller and the copy engine -/

theorem dirtyMarkReport_pending (s : State) : (dirtyMarkReport s).pending = s.pending := by
  unfold dirtyMarkReport
  split <;> simp

theorem mirrorAckReport_pending (s : State) : (mirrorAckReport s).pending = s.pending := by
  unfold mirrorAckReport
  split <;> simp

theorem markPin_pending (level : Bool) (s : State) : (markPin level s).pending = s.pending := by
  unfold markPin
  dsimp only
  split <;> simp

theorem drainPin_pending (level : Bool) (s : State) : (drainPin level s).pending = s.pending := by
  unfold drainPin
  dsimp only
  split <;> simp

theorem takeCopyStart_pending (s : State) : (takeCopyStart s).pending = s.pending := by
  unfold takeCopyStart
  dsimp only
  (repeat' split) <;> simp

theorem pacingExpiry_pending (s : State) : (pacingExpiry s).pending = s.pending := by
  unfold pacingExpiry
  split <;> simp

theorem lineReadAnswer_pending (answer : MemAnswer) (data : Line) (s : State) :
    (lineReadAnswer answer data s).pending = s.pending := by
  unfold lineReadAnswer
  dsimp only
  (repeat' split) <;> simp

/-! ### The link line and the receiver -/

theorem offerLoad_pending (s : State) : (offerLoad s).pending = s.pending := by
  unfold offerLoad
  (repeat' split) <;> simp

theorem frameBoundary_pending (s : State) : (frameBoundary s).pending = s.pending := by
  unfold frameBoundary
  split <;> simp

theorem frameEnd_pending (s : State) : (frameEnd s).pending = s.pending := by
  unfold frameEnd
  split <;> simp

theorem breakStart_pending (s : State) : (breakStart s).pending = s.pending := by
  unfold breakStart
  (repeat' split) <;> rfl

theorem breakEnd_pending (s : State) : (breakEnd s).pending = s.pending := by
  unfold breakEnd
  split <;> rfl

theorem receiverAlign_pending (s : State) : (receiverAlign s).pending = s.pending := by
  unfold receiverAlign
  split <;> rfl

theorem rxFraming_pending (c : FramingCheck) (s : State) : (rxFraming c s).pending = s.pending := by
  unfold rxFraming
  (repeat' split) <;> simp

theorem rxTruncation_pending (s : State) : (rxTruncation s).pending = s.pending := by
  unfold rxTruncation
  split <;> simp

theorem breakDetected_pending (s : State) : (breakDetected s).pending = s.pending := by
  unfold breakDetected
  split <;> simp

/-- The bytes of a frame reach the queue only where what the frame is for does. -/
theorem receiveBytes_pending {dispose : Frame → State → State} (hd : ∀ f s, (dispose f s).pending = s.pending)
    (bytes : List Byte) (s : State) : (receiveBytes dispose bytes s).pending = s.pending := by
  unfold receiveBytes
  (repeat' split) <;> simp [hd]

theorem disposeData_pending (bytes : List Byte) (f : Frame) (s : State) :
    (disposeData bytes f s).pending = s.pending := by
  unfold disposeData
  split <;> simp

/-! ### Sessions -/

theorem disposeHello_pending (f : Frame) (s : State) : (disposeHello f s).pending = s.pending := by
  unfold disposeHello
  split <;> simp

theorem disposeHelloAck_pending (f : Frame) (s : State) : (disposeHelloAck f s).pending = s.pending := by
  unfold disposeHelloAck
  split <;> simp

theorem disposeAck_pending (f : Frame) (s : State) : (disposeAck f s).pending = s.pending := by
  unfold disposeAck
  split <;> simp

theorem disposeNak_pending (f : Frame) (s : State) : (disposeNak f s).pending = s.pending := by
  unfold disposeNak
  split <;> simp

theorem helloKeepaliveExpiry_pending (s : State) : (helloKeepaliveExpiry s).pending = s.pending := by
  unfold helloKeepaliveExpiry
  dsimp only
  (repeat' split) <;> simp

theorem silenceExpiry_pending (s : State) : (silenceExpiry s).pending = s.pending := by
  unfold silenceExpiry
  split <;> simp

theorem ackExpiry_pending (s : State) : (ackExpiry s).pending = s.pending := by
  unfold ackExpiry
  dsimp only
  (repeat' split) <;> simp

/-! ### PORST -/

theorem unlessPorst_pending {f : State → State} (hf : ∀ s, (f s).pending = s.pending) (s : State) :
    (unlessPorst f s).pending = s.pending := by
  unfold unlessPorst
  split
  · rfl
  · exact hf s

theorem porstDeassert_pending (roleHigh : Bool) (pins : RequestPins) (selected : Bool) (s : State) :
    (porstDeassert roleHigh pins selected s).pending = s.pending := by
  unfold porstDeassert
  split <;> rfl

/-! ### The commands -/

/-- A command that is no transaction of the service port answers a next state: what its block does, held under PORST
or not, with the queue left alone. -/
theorem exec_event_completes {c : Instr} (hservice : c.isServiceCommand = false) (s : State) :
    ∃ t, exec c s = .next t ∧ t.pending = s.pending := by
  have held : ∀ {f : State → State}, (∀ s, (f s).pending = s.pending) →
      ∃ t, Host.Outcome.next (φ := Fault) (ρ := Refusal) (unlessPorst f s) = .next t ∧ t.pending = s.pending :=
    fun hf => ⟨_, rfl, unlessPorst_pending hf s⟩
  cases c <;> simp only [Instr.isServiceCommand, Bool.true_eq_false] at hservice
  case masterTransaction r => exact held (masterTransaction_pending r)
  case memoryReady => exact ⟨_, rfl, rfl⟩
  case systemMemoryAnswer beats data => exact ⟨_, rfl, systemMemoryAnswer_pending _ data s⟩
  case completionTaken => exact held completionTaken_pending
  case stallTimerExpiry => exact held stallExpiry_pending
  case heldWriteAckReport => exact held heldWriteAckReport_pending
  case dirtyMarkReport => exact held dirtyMarkReport_pending
  case mirrorAckReport => exact held mirrorAckReport_pending
  case copyStart => exact held takeCopyStart_pending
  case copyPacingTimerExpiry => exact held pacingExpiry_pending
  case lineReadAnswer beats data => exact ⟨_, rfl, lineReadAnswer_pending _ data s⟩
  case load => exact held offerLoad_pending
  case frameBoundary => exact held frameBoundary_pending
  case frameEnd => exact held frameEnd_pending
  case breakStart => exact held breakStart_pending
  case breakEnd => exact held breakEnd_pending
  case receiverAlign => exact held receiverAlign_pending
  case rxFraming check => exact held (rxFraming_pending check)
  case rxTruncation => exact held rxTruncation_pending
  case dataFrameReceived bytes => exact held (receiveBytes_pending (disposeData_pending bytes) bytes)
  case helloReceived bytes => exact held (receiveBytes_pending disposeHello_pending bytes)
  case helloAckReceived bytes => exact held (receiveBytes_pending disposeHelloAck_pending bytes)
  case ackReceived bytes => exact held (receiveBytes_pending disposeAck_pending bytes)
  case nakReceived bytes => exact held (receiveBytes_pending disposeNak_pending bytes)
  case helloKeepaliveTimerExpiry => exact held helloKeepaliveExpiry_pending
  case silenceTimerExpiry => exact held silenceExpiry_pending
  case ackTimerExpiry => exact held ackExpiry_pending
  case breakDetected => exact held breakDetected_pending
  case applyTakeFrame => exact held applyTakeFrame_pending
  case applyWriteAnswer beats => exact ⟨_, rfl, applyWriteAnswer_pending _ s⟩
  case markPinEdge level => exact held (markPin_pending level)
  case drainPinEdge level => exact held (drainPin_pending level)
  case softResetTaken pins selected => exact held fun s => by simp
  case srstAssert => exact ⟨_, rfl, srstAssert_pending s⟩
  case srstDeassert => exact ⟨_, rfl, rfl⟩
  case porstAssert => exact ⟨_, rfl, rfl⟩
  case porstDeassert roleHigh pins selected => exact ⟨_, rfl, porstDeassert_pending roleHigh pins selected s⟩

/-- Settles O2: a transaction of the service port is a run of its steps, and any other command is its block's. -/
theorem everyCommandCompletes : Obligations.EveryCommandCompletes := by
  unfold Obligations.EveryCommandCompletes
  intro c s
  cases hservice : c.isServiceCommand with
  | true =>
    obtain ⟨f, hf⟩ := exec_serviceCommand hservice
    exact ⟨_, hf s, served_pending (served_exec hservice (hf s))⟩
  | false => exact exec_event_completes hservice s

end Sys2Proof.Machine
end
